-- ==== Sys2Proof/Word.lean ====
section
/-! DEFINITION. The words of the SL10: bytes, times and the numbers of lanes, ports and channels. -/

namespace Sys2Proof

/-- One byte of a serial line. -/
abbrev Byte := BitVec 8

/-- A reading of the 32-bit line clock (R1). -/
abbrev Time := BitVec 32

/-- A lane. The lane of index `l` is lane number `l + 1`; lanes are numbered 1 to 10. -/
abbrev LaneIx := Fin 10

/-- A lane link port, 0 to 11. -/
abbrev PortIx := Fin 12

/-- A pod channel, 0 to 3. -/
abbrev Chan := Fin 4

/-- The ten lanes in ascending lane number. -/
def allLanes : List LaneIx := [0, 1, 2, 3, 4, 5, 6, 7, 8, 9]

/-- The twelve ports in ascending number. -/
def allPorts : List PortIx := [0, 1, 2, 3, 4, 5, 6, 7, 8, 9, 10, 11]

/-- The four channels in ascending number. -/
def allChans : List Chan := [0, 1, 2, 3]

/-- The lane number, 1 to 10, of a lane index. -/
def laneNumber (l : LaneIx) : Nat := l.val + 1

end Sys2Proof
end

