-- ==== Sys2Proof/Syntax.lean ====
section
/-! DEFINITION. The commands of the SL10, one constructor per row of spec/opcode_table.json, with their operands. -/

namespace Sys2Proof

/-- The levels of the strap pins (R166): two rate straps, five address straps, one parity strap. -/
structure Straps where
  rate    : BitVec 2
  address : BitVec 5
  parity  : Bool
  deriving DecidableEq, Repr

/-- The levels of the input pins: pistol input (active is true), presence lines 0 to 11 (bit p is port p, 1 is active), straps. -/
structure Pins where
  pistol   : Bool
  presence : BitVec 12
  straps   : Straps
  deriving DecidableEq, Repr

/-- A byte as it arrives on a serial line: its data bits, its parity bit and its stop bit (R18, R167). -/
structure RxByte where
  data   : Byte
  parity : Bool
  stop   : Bool
  deriving DecidableEq, Repr

/-- A byte as it arrives on the host line. `underDe` says that its start bit fell while DE was asserted (R167). -/
structure HostByte extends RxByte where
  underDe : Bool
  deriving DecidableEq, Repr

/-- The bytes of one lane link frame as they arrive on a port. `early` says that the frame's start byte arrived before the break
end of the port's current link reset (section 2.3). -/
structure LinkRx where
  bytes : List RxByte
  early : Bool
  deriving DecidableEq, Repr

/-- What a sound request frame carries beside its kind: the address byte, the tag and the payload (section 9.3). -/
structure Request where
  address : Byte
  tag     : Byte
  payload : List Byte
  deriving DecidableEq, Repr

/-- The commands. Each constructor is a row of spec/opcode_table.json (LAWS.json gives the row's mnemonic). -/
inductive Instr where
  /-- RESET: the reset pin is released with the straps at these levels (R196). -/
  | reset (straps : Straps)
  /-- START_UP_FIRST_TICK: the first tick after a reset, with the input pins at these levels (R197). -/
  | startUpFirstTick (pins : Pins)
  /-- STATUS request (R179). -/
  | status (r : Request)
  /-- EVENTS request (R183). -/
  | events (r : Request)
  /-- PORT request (R39). -/
  | port (r : Request)
  /-- LANE_SET request (R48). -/
  | laneSet (r : Request)
  /-- LANE_GET request (R54). -/
  | laneGet (r : Request)
  /-- PROFILE_SET request (R50). -/
  | profileSet (r : Request)
  /-- PROFILE_GET request (R54). -/
  | profileGet (r : Request)
  /-- LINE_SET request (R51). -/
  | lineSet (r : Request)
  /-- LINE_GET request (R54). -/
  | lineGet (r : Request)
  /-- ZERO request (R73). -/
  | zero (r : Request)
  /-- MARKS request (R88). -/
  | marks (r : Request)
  /-- SET request (R90). -/
  | set (r : Request)
  /-- STAND request (R96). -/
  | stand (r : Request)
  /-- RECORD request (R100). -/
  | record (r : Request)
  /-- RECALL request (R148). -/
  | recallRequest (r : Request)
  /-- RESERVE request (R153). -/
  | reserve (r : Request)
  /-- RULE request (R156). -/
  | rule (r : Request)
  /-- TRACE request (R160). -/
  | trace (r : Request)
  /-- STORE_SAVE request (R194). -/
  | storeSave (r : Request)
  /-- RESTART request (R196). -/
  | restart (r : Request)
  /-- REQUEST_FRAME_DROPPED: bytes on the host line that end in an abandoned or dropped frame (R170). -/
  | requestFrameDropped (bytes : List HostByte)
  /-- FRAME_TIMEOUT: bytes on the host line, then more than 3 byte times of quiet (R170). -/
  | frameTimeout (bytes : List HostByte)
  /-- MUTED_FRAME: bytes of a frame for another station; `quiet` says that more than 3 byte times of quiet follow (R171). -/
  | mutedFrame (bytes : List HostByte) (quiet : Bool)
  /-- REPLY_START: the moment at which a waiting reply begins to be sent (R177). -/
  | replyStart
  /-- REPLY_SENT: one bit time after the last CRC byte of a reply (R177). -/
  | replySent
  /-- REPLY_ABANDONED_2MS: 2 ms from the end of the request have passed (R178). -/
  | replyAbandoned2ms
  /-- PISTOL_EDGE (R5). -/
  | pistolEdge
  /-- SHOT_ACCEPTED (R6). -/
  | shotAccepted
  /-- GLITCH (R7). -/
  | glitch
  /-- PISTOL_HOLD_END (R8). -/
  | pistolHoldEnd
  /-- RECALL_PULSE_END (R14). -/
  | recallPulseEnd
  /-- SAMPLE_FRAME: the bytes of a sample frame arrive on a port (R25). -/
  | sampleFrame (p : PortIx) (rx : LinkRx)
  /-- HELLO: the bytes of a hello arrive on a port (R30). -/
  | hello (p : PortIx) (rx : LinkRx)
  /-- ALIVE: the bytes of an alive frame arrive on a port (R33). -/
  | alive (p : PortIx) (rx : LinkRx)
  /-- DISCARDED_STATUS_FRAME: the bytes of a status frame that is discarded arrive on a port (R200). -/
  | discardedStatusFrame (p : PortIx) (rx : LinkRx)
  /-- BAD_FRAME: the bytes of a bad frame arrive on a port; a frame cut short ends at the start byte that cuts it (R21, R22). -/
  | badFrame (p : PortIx) (rx : LinkRx)
  /-- SILENCE_END_EXPIRY (R32). -/
  | silenceEndExpiry (p : PortIx)
  /-- PRESENCE_ACTIVE (R26). -/
  | presenceActive (p : PortIx)
  /-- PRESENCE_INACTIVE (R27). -/
  | presenceInactive (p : PortIx)
  /-- HELLO_WAIT_END_EXPIRY (R31). -/
  | helloWaitEndExpiry (p : PortIx)
  /-- BREAK_END (R28). -/
  | breakEnd (p : PortIx)
  /-- OUTBOUND_FRAME_SENT (R18). -/
  | outboundFrameSent (p : PortIx)
  /-- ZERO_TIMEOUT (R76). -/
  | zeroTimeout (l : LaneIx)
  /-- SETTLE_END_EXPIRY (R91). -/
  | settleEndExpiry
  /-- WINDOW_CLOSE_EXPIRY (R97). -/
  | windowCloseExpiry
  /-- RECALL_SHOT_END_EXPIRY (R81). -/
  | recallShotEndExpiry
  /-- HELD_AGE_END_EXPIRY (R124). -/
  | heldAgeEndExpiry (l : LaneIx)
  /-- ATTN_PULSE_START (R186). -/
  | attnPulseStart
  /-- ATTN_PULSE_END (R186). -/
  | attnPulseEnd
  /-- LOAD_ADDRESS_ACKNOWLEDGED (R191). -/
  | loadAddressAcknowledged
  /-- LOAD_ACKNOWLEDGE_DEADLINE (R191). -/
  | loadAcknowledgeDeadline
  /-- LOAD_READ: one read transaction; the 16 bytes read, or none when the EEPROM did not acknowledge (R189, R191). -/
  | loadRead (taken : Option (Vector Byte 16))
  /-- SAVE_WRITE_TAKEN (R195). -/
  | saveWriteTaken
  /-- SAVE_WRITE_STORED (R195). -/
  | saveWriteStored
  /-- SAVE_ACKNOWLEDGE_DEADLINE (R195). -/
  | saveAcknowledgeDeadline
  /-- TICK: the next tick, with the input pins at these levels; `upsets` names ring entries (lane, ring index) whose stored bits
  have changed since the last tick (R1, R4, R26, R67). -/
  | tick (pins : Pins) (upsets : List (LaneIx × Nat))
  /-- UNKNOWN_KIND_REQUEST: a sound request frame of this kind code (R173). -/
  | unknownKindRequest (kind : Byte) (r : Request)
  /-- RESET_PIN_ASSERTED: the reset pin goes active (R196). -/
  | resetPinAsserted
  deriving DecidableEq, Repr

end Sys2Proof
end

