-- ==== Sys2Proof/Decode.lean ====
section
/-! DEFINITION. The command that a word spells by the table's bits. spec/opcode_table.json gives no row any bits ("fields": [],
no match and no mask), so no word spells a command. -/

namespace Sys2Proof

/-- No row of the table gives bits, so every word spells none (entry 1). -/
def decodeTableWord (_nbits _w : Nat) : Option Instr := none

end Sys2Proof
end

