-- ==== Sys2Proof/Machine/Types.lean ====
section
/-! DEFINITION. The records that hold the state of each block of the SL10, and the named values they hold. -/

namespace Sys2Proof.Machine

/-! ### Pistol input unit and recall driver (chapter 1) -/

/-- The unit state with the fields that are present in QUALIFYING only (section 1.2). -/
inductive PistolUnit where
  | quiet
  | qualifying (te qualifyEnd : Time)
  | held
  deriving DecidableEq, Repr

/-- The pistol input unit (section 1.2). Levels: active is true. `sample` is the sample of the present tick while the event it
causes (an edge, a shot, a glitch) has not been taken yet; it is the model's own field (entry 5). -/
structure Pistol where
  unit        : PistolUnit
  prev        : Option Bool
  sample      : Option Bool
  quietRun    : Nat
  glitchCount : Nat
  deriving DecidableEq, Repr

/-- The recall driver's state with the pulse end time that is present in PULSING only (section 1.3). -/
inductive RecallDriver where
  | idle
  | pulsing (pulseEnd : Time)
  deriving DecidableEq, Repr

/-! ### Configuration tables (chapter 3) -/

inductive AttnMode where
  | level
  | pulse
  deriving DecidableEq, Repr

inductive SampleRate where
  | hz1000
  | hz2000
  | hz2500
  deriving DecidableEq, Repr

/-- A lane map entry (R41). Bit c of a set stands for channel c. -/
structure LaneEntry where
  port       : Option PortIx
  sumSet     : BitVec 4
  commitSet  : BitVec 4
  gains      : Vector Nat 4
  zeros      : Vector Int 4
  latency    : Nat
  profile    : Fin 4
  lampEnable : Bool
  deriving DecidableEq, Repr

/-- A sensing profile (R43): T_abs, k, P and the unsteady test switch. -/
structure Profile where
  tAbs     : Nat
  k        : Nat
  p        : Nat
  unsteady : Bool
  deriving DecidableEq, Repr

/-- The line settings (R44). -/
structure LineSettings where
  reactionLimit : Nat
  window        : Nat
  settle        : Nat
  qualify       : Nat
  pulseLength   : Nat
  autoRecall    : Bool
  attnMode      : AttnMode
  rate          : SampleRate
  deriving DecidableEq, Repr

/-! ### Lane link ports (chapter 2) -/

inductive LinkState where
  | absent
  | linking
  | streaming
  | lost
  deriving DecidableEq, Repr

/-- An outbound frame (R37, R38, section 2.9). -/
inductive OutFrame where
  | mode (rate : SampleRate) (mask : BitVec 4)
  | streamOn
  | streamOff
  | lampOn
  | lampOff
  deriving DecidableEq, Repr

/-- The break of a port's link reset (R28): none, waiting for the frames before it to be sent, or being sent until its break end. -/
inductive BreakState where
  | clear
  | waits
  | low (breakEnd : Time)
  deriving DecidableEq, Repr

/-- The frame being received (R21): its bytes so far, the error mark, and whether its start byte came before the break end. -/
structure Inbound where
  bytes : List Byte
  error : Bool
  early : Bool
  deriving DecidableEq, Repr

/-- A lane link port (R17). -/
structure Port where
  link           : LinkState
  presence       : Bool
  presenceRun    : Nat
  capability     : Option Nat
  mismatched     : Bool
  lamp           : Bool
  expected       : Vector (Option (BitVec 4)) 4
  consecutiveBad : Nat
  lastValid      : Option Time
  silenceEnd     : Option Time
  helloWaitEnd   : Option Time
  helloPending   : Bool
  streamingSince : Option Time
  brk            : BreakState
  parityCount    : Nat
  checkCount     : Nat
  jumpCount      : Nat
  queue          : List OutFrame
  sending        : Option OutFrame
  inbound        : Inbound
  deriving DecidableEq, Repr

/-- The fields of a received lane link frame (R19, section 12.7). -/
structure LinkFields where
  status   : Bool
  selector : BitVec 2
  sequence : BitVec 4
  value    : BitVec 16
  overload : Bool
  deriving DecidableEq, Repr

/-! ### Sample assemblers, lane rings and ZERO (chapter 4) -/

/-- A sample assembler (R56); a raw value is signed, `none` is "no value". -/
structure Assembler where
  raw        : Vector (Option (BitVec 16)) 4
  fresh      : Vector Bool 4
  overload   : Vector Bool 4
  gapPending : Bool
  deriving DecidableEq, Repr

/-- A sample handed to an assembler (R25). -/
structure Sample where
  chan     : Chan
  raw      : BitVec 16
  overload : Bool
  jump     : Bool
  deriving DecidableEq, Repr

/-- A committed entry (R60). -/
structure Entry where
  time  : Time
  force : Int
  stale : Bool
  gap   : Bool
  sat   : Bool
  ovl   : Bool
  deriving DecidableEq, Repr

/-- A written slot of a lane ring (R65): the entry, and whether its stored fields agree with its check (R67, entry 6). -/
structure Slot where
  entry  : Entry
  intact : Bool
  deriving DecidableEq, Repr

/-- A lane ring (R65). `slots` holds the written slots, the slot of ring index i at place i; a ring index at or past its length
has not been written. `frozenBy` is the freezing attempt id, present while the frozen mark is set. -/
structure Ring where
  slots      : List Slot
  writeIndex : Nat
  count      : Nat
  frozenBy   : Option Nat
  deriving DecidableEq, Repr

/-- The state of a ZERO in flight on a lane (R73). -/
structure ZeroRun where
  count      : Nat
  sums       : Vector Int 4
  timeoutEnd : Time
  deriving DecidableEq, Repr

/-! ### Onset detectors (chapter 6) -/

inductive DetState where
  | off
  | settling
  | capture
  | watching
  | crossing
  | done
  deriving DecidableEq, Repr

/-- The finalized baseline (R108): B, N, threshold, return level L, unsteady band U. -/
structure Baseline where
  b     : Int
  n     : Int
  theta : Int
  l     : Int
  u     : Int
  deriving DecidableEq, Repr

/-- The first crossing sample s1 (R115). -/
structure FirstCrossing where
  index : Option Nat
  time  : Time
  gap   : Bool
  deriving DecidableEq, Repr

/-- A confirmed crossing: the compensated onset and its flags (R120, R121). -/
structure Crossing where
  onset   : Time
  bounded : Bool
  stale   : Bool
  sat     : Bool
  deriving DecidableEq, Repr

/-- An onset detector (R102). -/
structure Detector where
  state            : DetState
  attempt          : Option Nat
  linkOut          : Bool
  hold             : Bool
  shotTime         : Option Time
  n                : Nat
  sum              : Int
  maximum          : Option Int
  minimum          : Option Int
  quality          : Bool
  baseline         : Option Baseline
  unsteadyRun      : Nat
  unsteadyReported : Bool
  persistence      : Nat
  first            : Option FirstCrossing
  runStale         : Bool
  runSat           : Bool
  held             : Option Crossing
  heldAgeEnd       : Option Time
  longHeld         : Bool
  deriving DecidableEq, Repr

/-! ### Attempt records (chapters 5, 7 and 8) -/

inductive RecState where
  | marks
  | set
  | running
  | decided
  | aborted
  deriving DecidableEq, Repr

inductive LineState where
  | idle
  | marks
  | set
  | running
  deriving DecidableEq, Repr

inductive Verdict where
  | pending
  | fair
  | falseStart
  | noStart
  | unsure
  | void
  deriving DecidableEq, Repr

inductive Decision where
  | upheld
  | annulled
  deriving DecidableEq, Repr

/-- The flags of a lane result (table 12.3). -/
structure LaneFlags where
  early     : Bool := false
  shortBase : Bool := false
  bounded   : Bool := false
  stale     : Bool := false
  link      : Bool := false
  unsteady  : Bool := false
  rtSat     : Bool := false
  sat       : Bool := false
  deriving DecidableEq, Repr

/-- The result of one lane of an attempt (R82). -/
structure LaneResult where
  lane     : LaneIx
  verdict  : Verdict
  flags    : LaneFlags
  rt       : Option Int
  onset    : Option Time
  b        : Int
  n        : Int
  theta    : Int
  decision : Option Decision
  deriving DecidableEq, Repr

/-- An attempt record (R82). The lane set is the lanes of `results`, in ascending lane number. -/
structure Record where
  id          : Nat
  heat        : Nat
  number      : Nat
  state       : RecState
  t0          : Option Time
  windowClose : Option Time
  recallPulse : Option Time
  recallShot  : Option Time
  falseList   : List LaneIx
  results     : List LaneResult
  deriving DecidableEq, Repr

/-- The attempt sequencer's own state and the attempt history, oldest record first (R81, R85). -/
structure Sequencer where
  history       : List Record
  nextId        : Nat
  setTime       : Option Time
  settleEnd     : Option Time
  windowEnd     : Option Time
  recallShotEnd : Option Time
  earlyEdge     : Bool
  deriving DecidableEq, Repr

/-! ### Event queue (chapter 10) -/

inductive EventKind where
  | shot
  | glitch
  | unarmedShot
  | recallShot
  | earlyMove
  | unsteady
  | falseStart
  | recallSent
  | decided
  | aborted
  | linkUp
  | linkLost
  | zeroDone
  | zeroFail
  | storeDone
  | storeFail
  | checkFault
  deriving DecidableEq, Repr

/-- One event (R180). -/
structure Event where
  kind    : EventKind
  time    : Time
  lane    : Option LaneIx
  attempt : Nat
  value   : BitVec 32
  deriving DecidableEq, Repr

/-- The event queue and the attention line's counters (R180, R186). `pulseThisTick`: a pulse has begun in the present tick. -/
structure EventQueue where
  list          : List Event
  overflow      : Bool
  owed          : Nat
  pulse         : Bool
  pulseThisTick : Bool
  deriving DecidableEq, Repr

/-! ### Host line interface (chapter 9) -/

inductive LineRate where
  | b38400
  | b115200
  | b460800
  | b921600
  deriving DecidableEq, Repr

/-- The receive state (section 9.4): the bytes after the sync byte in RECEIVE; in MUTE the header bytes still to come (tag, kind,
length), then the bytes still to be stepped over. -/
inductive RxState where
  | hunt
  | receive (frame : List Byte)
  | muteHeader (left : Nat)
  | muteBody (left : Nat)
  deriving DecidableEq, Repr

inductive Status where
  | ok
  | unknownKind
  | badLength
  | badValue
  | state
  | busy
  | stale
  | notFrozen
  | noRecord
  deriving DecidableEq, Repr

/-- A reply built for a request (R176). -/
structure Reply where
  tag     : Byte
  kind    : Byte
  status  : Status
  payload : List Byte
  deriving DecidableEq, Repr

/-- The reply transmit state (R166, R176). A waiting reply carries the tick at which 2 ms have passed from the end of its request (R178,
entry 20). -/
inductive TxState where
  | idle
  | waiting (r : Reply) (limit : Time)
  | sending (r : Reply)
  deriving DecidableEq, Repr

/-- The host line interface (R166). The address fault mark is set exactly when `address` is none. -/
structure HostLine where
  rate           : LineRate
  address        : Option Nat
  rx             : RxState
  tx             : TxState
  parityCount    : Nat
  crcCount       : Nat
  timeoutCount   : Nat
  restartPending : Bool
  deriving DecidableEq, Repr

/-! ### Store port (chapter 11) -/

inductive StoreState where
  | loading
  | loaded
  | defaultsAbsent
  | defaultsBad
  | saving
  | saveFailed
  deriving DecidableEq, Repr

/-- A save in progress (R188, R195): the save image, the next offset, the offset of the marker-breaking byte while step 1 is in
hand, and whether the EEPROM has taken the write in hand. -/
structure SaveRun where
  image      : List Byte
  nextOffset : Nat
  breaking   : Option Nat
  taken      : Bool
  deriving DecidableEq, Repr

/-- The work in hand: none, the load's address transaction, the load's reading with the bytes read so far, or a save. -/
inductive StoreJob where
  | idle
  | addressing
  | reading (got : List Byte)
  | saving (run : SaveRun)
  deriving DecidableEq, Repr

/-- A transaction of the store port on the two-wire bus (R189). -/
inductive Transaction where
  | address
  | read (offset : Nat)
  | write (offset : Nat) (data : List Byte)
  deriving DecidableEq, Repr

/-- The store port (R188). `busUsed`: this tick's transaction of the job in hand has been completed. -/
structure StorePort where
  state        : StoreState
  markerOffset : Option Nat
  job          : StoreJob
  deadline     : Option Time
  busUsed      : Bool
  deriving DecidableEq, Repr

end Sys2Proof.Machine
end

