-- ==== Sys2Proof/Machine/Operands.lean ====
section
/-! DEFINITION. The operand forms of the commands: bytes on the lines, frames, request payloads, reply payloads, the stored
image. Everything here is a function of bytes and values; nothing reads the state. -/

namespace Sys2Proof.Machine

/-! ### Bytes on a line (R18, R167) -/

/-- Whether a byte's eight data bits hold an odd number of ones. -/
def onesOdd (b : Byte) : Bool :=
  b.getLsbD 0 ^^ b.getLsbD 1 ^^ b.getLsbD 2 ^^ b.getLsbD 3 ^^ b.getLsbD 4 ^^ b.getLsbD 5 ^^ b.getLsbD 6 ^^ b.getLsbD 7

/-- A parity or framing error on a lane link, whose bytes carry odd parity (R18). -/
def linkError (b : RxByte) : Bool := !(onesOdd b.data ^^ b.parity) || !b.stop

/-- A parity or framing error on the host line, whose bytes carry even parity (R167). -/
def hostError (b : RxByte) : Bool := (onesOdd b.data ^^ b.parity) || !b.stop

/-- A byte as a pod sends it. -/
def linkByteOf (d : Byte) : RxByte := { data := d, parity := !onesOdd d, stop := true }

/-- A byte as the host sends it, begun while DE was released. -/
def hostByteOf (d : Byte) : HostByte := { data := d, parity := onesOdd d, stop := true, underDe := false }

/-! ### Lane link frames (R19, R20, R200, section 12.7) -/

/-- The upper half of a byte. -/
def hiHalf (b : Byte) : BitVec 4 := b.extractLsb' 4 4

/-- The lower half of a byte. -/
def loHalf (b : Byte) : BitVec 4 := b.extractLsb' 0 4

/-- The check computed over a frame: the exclusive-or of the seven groups of four bits (R20). -/
def linkCheck (b0 b1 b2 b3 : Byte) : BitVec 4 :=
  hiHalf b0 ^^^ loHalf b0 ^^^ hiHalf b1 ^^^ loHalf b1 ^^^ hiHalf b2 ^^^ loHalf b2 ^^^ hiHalf b3

/-- The check agrees with the one received, the lower half of the fourth byte (R20). -/
def linkCheckAgrees (b0 b1 b2 b3 : Byte) : Bool := linkCheck b0 b1 b2 b3 == loHalf b3

/-- The fields of a frame of four bytes (section 12.7). -/
def linkFields (b0 b1 b2 b3 : Byte) : LinkFields :=
  { status := b0.getLsbD 6, selector := b0.extractLsb' 4 2, sequence := b0.extractLsb' 0 4,
    value := b1.extractLsb' 0 7 ++ b2.extractLsb' 0 7 ++ b3.extractLsb' 5 2, overload := b3.getLsbD 4 }

/-- The first byte of a frame: the start bit, kind, selector and sequence (section 12.7). -/
def linkByte0 (f : LinkFields) : Byte := 1#1 ++ BitVec.ofBool f.status ++ f.selector ++ f.sequence

/-- The second byte: value bits 15 to 9. -/
def linkByte1 (f : LinkFields) : Byte := 0#1 ++ f.value.extractLsb' 9 7

/-- The third byte: value bits 8 to 2. -/
def linkByte2 (f : LinkFields) : Byte := 0#1 ++ f.value.extractLsb' 2 7

/-- The upper half of the fourth byte: value bits 1 and 0 and the overload mark. -/
def linkHalf3 (f : LinkFields) : BitVec 4 := 0#1 ++ f.value.extractLsb' 0 2 ++ BitVec.ofBool f.overload

/-- The fourth byte: its upper half with this check. -/
def linkByte3 (f : LinkFields) (check : BitVec 4) : Byte := linkHalf3 f ++ check

/-- The check of the frame with these fields (R20). -/
def linkFieldsCheck (f : LinkFields) : BitVec 4 :=
  linkCheck (linkByte0 f) (linkByte1 f) (linkByte2 f) (linkByte3 f 0#4)

/-- The four bytes of the frame with these fields, its check in place (R19, R20). -/
def linkFrameBytes (f : LinkFields) : List Byte :=
  [linkByte0 f, linkByte1 f, linkByte2 f, linkByte3 f (linkFieldsCheck f)]

/-- The code of a sample rate, in the line settings and in the mode frame (section 12.2). -/
def rateCode : SampleRate → Byte
  | .hz1000 => 0x01
  | .hz2000 => 0x02
  | .hz2500 => 0x03

/-- The fields of an outbound frame (R19, R38, section 12.7). -/
def outFrameFields : OutFrame → LinkFields
  | .mode rate mask =>
    { status := false, selector := 0, sequence := 0, value := 0#10 ++ (rateCode rate).extractLsb' 0 2 ++ mask, overload := false }
  | .streamOn => { status := true, selector := 0, sequence := 0, value := 0, overload := false }
  | .streamOff => { status := true, selector := 1, sequence := 0, value := 0, overload := false }
  | .lampOn => { status := true, selector := 2, sequence := 0, value := 0, overload := false }
  | .lampOff => { status := true, selector := 3, sequence := 0, value := 0, overload := false }

/-- The bytes that the part sends for an outbound frame. -/
def outFrameBytes (f : OutFrame) : List Byte := linkFrameBytes (outFrameFields f)

/-- How a valid inbound frame is used (R23, R200). -/
inductive LinkUse where
  | sample (smp : Chan) (seq : BitVec 4) (raw : BitVec 16) (overload : Bool)
  | hello (channels : Nat)
  | alive
  | discarded
  deriving DecidableEq, Repr

/-- The use of a valid inbound frame, by its kind bit and selector (R200). -/
def linkUse (f : LinkFields) : LinkUse :=
  if f.status = false then .sample f.selector.toFin f.sequence f.value f.overload
  else if f.selector = 0#2 then
    if 1 ≤ f.value.toNat ∧ f.value.toNat ≤ 4 then .hello f.value.toNat else .discarded
  else if f.selector = 1#2 then .alive
  else .discarded

/-- A frame as it arrives from a pod that sends these fields with no error. -/
def linkRxOf (f : LinkFields) : LinkRx := { bytes := (linkFrameBytes f).map linkByteOf, early := false }

/-- The frame of a sample: channel, sequence, raw value, overload mark. -/
def sampleFields (c : Chan) (seq : BitVec 4) (raw : BitVec 16) (overload : Bool) : LinkFields :=
  { status := false, selector := BitVec.ofFin c, sequence := seq, value := raw, overload := overload }

/-- The frame of a hello with this channel count. -/
def helloFields (channels : BitVec 16) : LinkFields :=
  { status := true, selector := 0, sequence := 0, value := channels, overload := false }

/-- An alive frame. -/
def aliveFields : LinkFields := { status := true, selector := 1, sequence := 0, value := 0, overload := false }

/-! ### The CRC of the host line (R168) -/

/-- One shift of the CRC register. -/
def crcShift (r : BitVec 16) : BitVec 16 := if r.msb then (r <<< 1) ^^^ 0x1021#16 else r <<< 1

/-- The CRC register after one more byte. -/
def crcByte (r : BitVec 16) (b : Byte) : BitVec 16 :=
  crcShift (crcShift (crcShift (crcShift (crcShift (crcShift (crcShift (crcShift (r ^^^ (b ++ 0#8)))))))))

/-- The CRC over bytes in the order sent. -/
def crc16 (bytes : List Byte) : BitVec 16 := bytes.foldl crcByte 0xFFFF#16

/-- The two bytes of a CRC, high byte first. -/
def crcBytes (c : BitVec 16) : List Byte := [c.extractLsb' 8 8, c.extractLsb' 0 8]

/-! ### Numbers in bytes, most significant byte first -/

/-- One byte that holds a number. -/
def be8 (n : Nat) : List Byte := [BitVec.ofNat 8 n]

/-- Two bytes that hold a number. -/
def be16 (n : Nat) : List Byte := [BitVec.ofNat 8 (n / 256), BitVec.ofNat 8 n]

/-- Two bytes that hold a signed number, in two's complement. -/
def beInt16 (i : Int) : List Byte := [(BitVec.ofInt 16 i).extractLsb' 8 8, (BitVec.ofInt 16 i).extractLsb' 0 8]

/-- The four bytes of a 32-bit word. -/
def be32 (w : BitVec 32) : List Byte := [w.extractLsb' 24 8, w.extractLsb' 16 8, w.extractLsb' 8 8, w.extractLsb' 0 8]

/-- The unsigned number in two bytes. -/
def rd16 (h l : Byte) : Nat := (h ++ l).toNat

/-- The signed number in two bytes. -/
def rdInt16 (h l : Byte) : Int := (h ++ l).toInt

/-- A mark as a byte, 1 when set. -/
def beBool (b : Bool) : List Byte := [if b then 0x01#8 else 0x00#8]

/-! ### Field encodings that can be refused (R198) -/

/-- A port number byte, 0 to 11. -/
def portOfByte (b : Byte) : Option PortIx := if h : b.toNat < 12 then some ⟨b.toNat, h⟩ else none

/-- A lane byte, 1 to 10. -/
def laneOfByte (b : Byte) : Option LaneIx :=
  if h : 1 ≤ b.toNat ∧ b.toNat ≤ 10 then some ⟨b.toNat - 1, by omega⟩ else none

/-- A profile byte, 0 to 3. -/
def profileOfByte (b : Byte) : Option (Fin 4) := if h : b.toNat < 4 then some ⟨b.toNat, h⟩ else none

/-- The port byte of a lane entry: 0 to 11, or 0xFF for none. -/
def lanePortOfByte (b : Byte) : Option (Option PortIx) :=
  if b = 0xFF#8 then some none else (portOfByte b).map some

/-- A summation or commit mask: bits 4 to 7 clear, not 0. -/
def maskOfByte (b : Byte) : Option (BitVec 4) :=
  if b.extractLsb' 4 4 = 0#4 ∧ b ≠ 0#8 then some (b.extractLsb' 0 4) else none

/-- A gain, 1 to 16 383. -/
def gainOfBytes (h l : Byte) : Option Nat := if 1 ≤ rd16 h l ∧ rd16 h l ≤ 16383 then some (rd16 h l) else none

/-- An on/off byte or a clear mark: 0 or 1. -/
def flagOfByte (b : Byte) : Option Bool := if b = 0#8 then some false else if b = 1#8 then some true else none

/-- An ATTN mode byte. -/
def attnModeOfByte (b : Byte) : Option AttnMode := if b = 0#8 then some .level else if b = 1#8 then some .pulse else none

/-- A sample rate code. -/
def rateOfByte (b : Byte) : Option SampleRate :=
  if b = 0x01#8 then some .hz1000 else if b = 0x02#8 then some .hz2000 else if b = 0x03#8 then some .hz2500 else none

/-- A RULE decision byte. -/
def decisionOfByte (b : Byte) : Option Decision :=
  if b = 0x01#8 then some .upheld else if b = 0x02#8 then some .annulled else none

/-- A number within a range. -/
def inRange (lo hi n : Nat) : Option Nat := if lo ≤ n ∧ n ≤ hi then some n else none

/-- The 22 bytes of a lane entry (section 12.2), none when an encoding is refused. -/
def laneEntryOfBytes (bs : List Byte) : Option LaneEntry :=
  match bs with
  | [p, sm, cm, g0h, g0l, g1h, g1l, g2h, g2l, g3h, g3l, z0h, z0l, z1h, z1l, z2h, z2l, z3h, z3l, lat, prof, lamp] =>
    match lanePortOfByte p, maskOfByte sm, maskOfByte cm, gainOfBytes g0h g0l, gainOfBytes g1h g1l, gainOfBytes g2h g2l,
      gainOfBytes g3h g3l, profileOfByte prof, flagOfByte lamp with
    | some port, some sumSet, some commitSet, some g0, some g1, some g2, some g3, some profile, some lampEnable =>
      some { port := port, sumSet := sumSet, commitSet := commitSet, gains := #v[g0, g1, g2, g3],
             zeros := #v[rdInt16 z0h z0l, rdInt16 z1h z1l, rdInt16 z2h z2l, rdInt16 z3h z3l], latency := lat.toNat,
             profile := profile, lampEnable := lampEnable }
    | _, _, _, _, _, _, _, _, _ => none
  | _ => none

/-- The 22 bytes of a lane entry. -/
def laneEntryBytes (e : LaneEntry) : List Byte :=
  [match e.port with | some p => BitVec.ofNat 8 p.val | none => 0xFF#8, 0#4 ++ e.sumSet, 0#4 ++ e.commitSet]
    ++ be16 e.gains[0] ++ be16 e.gains[1] ++ be16 e.gains[2] ++ be16 e.gains[3]
    ++ beInt16 e.zeros[0] ++ beInt16 e.zeros[1] ++ beInt16 e.zeros[2] ++ beInt16 e.zeros[3]
    ++ be8 e.latency ++ be8 e.profile.val ++ beBool e.lampEnable

/-- The 5 bytes of a profile's fields (section 12.2). -/
def profileOfBytes (bs : List Byte) : Option Profile :=
  match bs with
  | [th, tl, k, p, u] =>
    match inRange 50 2000 (rd16 th tl), inRange 1 8 k.toNat, inRange 1 8 p.toNat, flagOfByte u with
    | some t, some k, some p, some u => some { tAbs := t, k := k, p := p, unsteady := u }
    | _, _, _, _ => none
  | _ => none

/-- The 5 bytes of a profile's fields. -/
def profileBytes (p : Profile) : List Byte := be16 p.tAbs ++ be8 p.k ++ be8 p.p ++ beBool p.unsteady

/-- The 12 bytes of the line settings (section 12.2). -/
def lineOfBytes (bs : List Byte) : Option LineSettings :=
  match bs with
  | [rh, rl, wh, wl, sh, sl, q, ph, pl, auto, mode, rate] =>
    match inRange 0 2000 (rd16 rh rl), inRange 1000 5000 (rd16 wh wl), inRange 0 20000 (rd16 sh sl), inRange 1 100 q.toNat,
      inRange 100 10000 (rd16 ph pl), flagOfByte auto, attnModeOfByte mode, rateOfByte rate with
    | some r, some w, some s, some q, some p, some a, some m, some rt =>
      some { reactionLimit := r, window := w, settle := s, qualify := q, pulseLength := p, autoRecall := a, attnMode := m, rate := rt }
    | _, _, _, _, _, _, _, _ => none
  | _ => none

/-- The 12 bytes of the line settings. -/
def lineBytes (c : LineSettings) : List Byte :=
  be16 c.reactionLimit ++ be16 c.window ++ be16 c.settle ++ be8 c.qualify ++ be16 c.pulseLength ++ beBool c.autoRecall
    ++ [match c.attnMode with | .level => 0#8 | .pulse => 1#8, rateCode c.rate]

/-- The lanes that a MARKS lane mask names; none when the mask is 0 or names no lane (R198). -/
def lanesOfMask (m : BitVec 16) : Option (List LaneIx) :=
  if m = 0#16 ∨ m.getLsbD 0 = true ∨ m.extractLsb' 11 5 ≠ 0#5 then none
  else some (allLanes.filter fun l => m.getLsbD (laneNumber l))

/-- The lane mask of a lane set (table 12.4). -/
def maskOfLanes (ls : List LaneIx) : BitVec 16 := ls.foldl (fun m l => m ||| (1#16 <<< laneNumber l)) 0#16

/-! ### Codes of named values (sections 12.1 to 12.3) -/

def statusCode : Status → Byte
  | .ok => 0x00 | .unknownKind => 0x01 | .badLength => 0x02 | .badValue => 0x03 | .state => 0x04
  | .busy => 0x05 | .stale => 0x06 | .notFrozen => 0x07 | .noRecord => 0x08

def lineStateCode : LineState → Byte
  | .idle => 0 | .marks => 1 | .set => 2 | .running => 3

def recStateCode : RecState → Byte
  | .marks => 1 | .set => 2 | .running => 3 | .decided => 4 | .aborted => 5

def verdictCode : Verdict → Byte
  | .pending => 0 | .fair => 1 | .falseStart => 2 | .noStart => 3 | .unsure => 4 | .void => 5

def linkStateCode : LinkState → Byte
  | .absent => 0 | .linking => 1 | .streaming => 2 | .lost => 3

def storeStateCode : StoreState → Byte
  | .loading => 0 | .loaded => 1 | .defaultsAbsent => 2 | .defaultsBad => 3 | .saving => 4 | .saveFailed => 5

def eventKindCode : EventKind → Byte
  | .shot => 0x01 | .glitch => 0x02 | .unarmedShot => 0x03 | .recallShot => 0x04 | .earlyMove => 0x05 | .unsteady => 0x06
  | .falseStart => 0x07 | .recallSent => 0x08 | .decided => 0x09 | .aborted => 0x0A | .linkUp => 0x0B | .linkLost => 0x0C
  | .zeroDone => 0x0D | .zeroFail => 0x0E | .storeDone => 0x0F | .storeFail => 0x10 | .checkFault => 0x11

/-- Family code, part code and revision number (table 12.3). -/
def identification : List Byte := [0x5A, 0x10, 0x01]

/-! ### Request kinds (table 12.2) -/

inductive Kind where
  | status | events | port | laneSet | laneGet | profileSet | profileGet | lineSet | lineGet | zero
  | marks | set | stand | record | recallRequest | reserve | rule | trace | storeSave | restart
  deriving DecidableEq, Repr

def Kind.code : Kind → Byte
  | .status => 0x01 | .events => 0x02 | .port => 0x03 | .laneSet => 0x10 | .laneGet => 0x11 | .profileSet => 0x12
  | .profileGet => 0x13 | .lineSet => 0x14 | .lineGet => 0x15 | .zero => 0x18 | .marks => 0x20 | .set => 0x21 | .stand => 0x22
  | .record => 0x23 | .recallRequest => 0x28 | .reserve => 0x30 | .rule => 0x31 | .trace => 0x32 | .storeSave => 0x38 | .restart => 0x39

/-- The request kind of a kind code, or none (R173). -/
def kindOfCode (c : Byte) : Option Kind :=
  if c = 0x01 then some .status else if c = 0x02 then some .events else if c = 0x03 then some .port
  else if c = 0x10 then some .laneSet else if c = 0x11 then some .laneGet else if c = 0x12 then some .profileSet
  else if c = 0x13 then some .profileGet else if c = 0x14 then some .lineSet else if c = 0x15 then some .lineGet
  else if c = 0x18 then some .zero else if c = 0x20 then some .marks else if c = 0x21 then some .set
  else if c = 0x22 then some .stand else if c = 0x23 then some .record else if c = 0x28 then some .recallRequest
  else if c = 0x30 then some .reserve else if c = 0x31 then some .rule else if c = 0x32 then some .trace
  else if c = 0x38 then some .storeSave else if c = 0x39 then some .restart else none

/-- The request payload length of each kind. -/
def Kind.length : Kind → Nat
  | .status => 1 | .events => 1 | .port => 2 | .laneSet => 23 | .laneGet => 1 | .profileSet => 6 | .profileGet => 1
  | .lineSet => 12 | .lineGet => 0 | .zero => 1 | .marks => 4 | .set => 0 | .stand => 0 | .record => 2 | .recallRequest => 0
  | .reserve => 2 | .rule => 4 | .trace => 4 | .storeSave => 0 | .restart => 0

/-- The bytes of a sound request frame (section 12.1). -/
def requestBytes (code : Byte) (r : Request) : List Byte :=
  let body := r.address :: r.tag :: code :: BitVec.ofNat 8 r.payload.length :: r.payload
  0xC3#8 :: body ++ crcBytes (crc16 body)

/-- The bytes of a reply frame of station `own` (section 12.1). -/
def replyBytes (own : Nat) (r : Reply) : List Byte :=
  let body := BitVec.ofNat 8 own :: r.tag :: r.kind :: statusCode r.status :: BitVec.ofNat 8 r.payload.length :: r.payload
  0x3C#8 :: body ++ crcBytes (crc16 body)

/-! ### Reply records (sections 12.4 and 12.6) -/

/-- The presence byte of the four times of a record (section 12.4). -/
def timesPresence (r : Record) : Byte :=
  (if r.t0.isSome then 1#8 else 0#8) ||| (if r.windowClose.isSome then 2#8 else 0#8)
    ||| (if r.recallPulse.isSome then 4#8 else 0#8) ||| (if r.recallShot.isSome then 8#8 else 0#8)

/-- An optional time, 0 when absent. -/
def beTime (t : Option Time) : List Byte := be32 (t.getD 0#32)

/-- The presence byte of a lane result: reaction time, onset time, referee decision (section 12.4). -/
def resultPresence (x : LaneResult) : Byte :=
  (if x.rt.isSome then 1#8 else 0#8) ||| (if x.onset.isSome then 2#8 else 0#8)
    ||| (match x.decision with | none => 0#8 | some .upheld => 4#8 | some .annulled => 8#8)

/-- An event as 12 bytes (section 12.6). -/
def eventBytes (e : Event) : List Byte :=
  [eventKindCode e.kind] ++ be32 e.time ++ be8 (match e.lane with | some l => laneNumber l | none => 0)
    ++ be16 e.attempt ++ be32 e.value

end Sys2Proof.Machine
end

