-- ==== Sys2Proof/Machine/Flags.lean ====
section
/-! DEFINITION. Flag computations: the flags of a committed entry, of a crossing and of a lane result, and their bytes. -/

namespace Sys2Proof.Machine

/-- The channels of a set, ascending. -/
def chansOf (set : BitVec 4) : List Chan := allChans.filter fun c => set.getLsbD c.val

/-- STALE: a summation channel is not fresh at the commit (R63). -/
def staleFlag (sumSet : BitVec 4) (a : Assembler) : Bool := (chansOf sumSet).any fun c => !a.fresh[c]

/-- OVL: a summation channel has its overload mark set at the commit (R63). -/
def ovlFlag (sumSet : BitVec 4) (a : Assembler) : Bool := (chansOf sumSet).any fun c => a.overload[c]

/-- SAT: the unsaturated sum lies outside -3000 to 30 000 (R62). -/
def satFlag (sum : Int) : Bool := decide (sum < -3000) || decide (30000 < sum)

/-- The flags of a lane accumulate; no report clears one (R132). -/
def LaneFlags.union (a b : LaneFlags) : LaneFlags :=
  { early := a.early || b.early, shortBase := a.shortBase || b.shortBase, bounded := a.bounded || b.bounded,
    stale := a.stale || b.stale, link := a.link || b.link, unsteady := a.unsteady || b.unsteady, rtSat := a.rtSat || b.rtSat,
    sat := a.sat || b.sat }

/-- Bit i of a flag byte. -/
def flagBit (i : Nat) (b : Bool) : Byte := if b then 1#8 <<< i else 0#8

/-- The flags byte of a lane result (table 12.3). -/
def laneFlagsByte (f : LaneFlags) : Byte :=
  flagBit 0 f.early ||| flagBit 1 f.shortBase ||| flagBit 2 f.bounded ||| flagBit 3 f.stale ||| flagBit 4 f.link
    ||| flagBit 5 f.unsteady ||| flagBit 6 f.rtSat ||| flagBit 7 f.sat

/-- The flags byte of a ring entry whose check agrees (table 12.3). -/
def entryFlagsByte (e : Entry) : Byte := flagBit 0 e.stale ||| flagBit 1 e.gap ||| flagBit 2 e.sat ||| flagBit 3 e.ovl

/-- A lane result as 16 bytes (section 12.4). -/
def resultBytes (x : LaneResult) : List Byte :=
  be8 (laneNumber x.lane) ++ [verdictCode x.verdict, laneFlagsByte x.flags, resultPresence x] ++ beInt16 (x.rt.getD 0)
    ++ beTime x.onset ++ beInt16 x.b ++ beInt16 x.n ++ beInt16 x.theta

/-- A record as RECORD and RESERVE return it (section 12.4). -/
def recordBytes (r : Record) : List Byte :=
  be16 r.id ++ be16 r.heat ++ be8 r.number ++ [recStateCode r.state]
    ++ [(maskOfLanes (r.results.map (·.lane))).extractLsb' 8 8, (maskOfLanes (r.results.map (·.lane))).extractLsb' 0 8]
    ++ [timesPresence r] ++ beTime r.t0 ++ beTime r.windowClose ++ beTime r.recallPulse ++ beTime r.recallShot
    ++ be8 r.falseList.length ++ r.falseList.flatMap (fun l => be8 (laneNumber l)) ++ r.results.flatMap resultBytes

/-- A trace entry as 7 bytes: 0 in every field but BAD when its check fails (R161, section 12.6). -/
def slotBytes (w : Slot) : List Byte :=
  if w.intact then be32 w.entry.time ++ beInt16 w.entry.force ++ [entryFlagsByte w.entry]
  else be32 0#32 ++ beInt16 0 ++ [flagBit 4 true]

end Sys2Proof.Machine
end

