-- ==== Sys2Proof/Config.lean ====
section
/-! DEFINITION. What one installation fixes and the spec does not: the levels of the input pins that `State.reset` starts from.
The spec leaves no result of a command open, so there is no free value here. -/

namespace Sys2Proof.Config

/-- DESIGN CHOICE (entry 2): every input pin reads inactive, or 0, until a command gives its level. -/
def initialPins : Pins := { pistol := false, presence := 0#12, straps := { rate := 0#2, address := 0#5, parity := false } }

end Sys2Proof.Config
end

