-- ==== Sys2Proof/Machine/Defaults.lean ====
section
/-! DEFINITION. The value each block takes at a reset (R196), block by block. -/

namespace Sys2Proof.Machine

/-- R11. -/
def pistolReset : Pistol := { unit := .quiet, prev := none, sample := none, quietRun := 0, glitchCount := 0 }

/-- An inbound frame with no byte. -/
def inboundEmpty : Inbound := { bytes := [], error := false, early := false }

/-- R17, before the first tick reads the presence line. DESIGN CHOICE (entry 3): presence inactive until then. DESIGN CHOICE (entry 3): a
frame being sent at the reset is cut off, since R17 gives no reset value for it. -/
def portReset : Port :=
  { link := .absent, presence := false, presenceRun := 0, capability := none, mismatched := false, lamp := false,
    expected := Vector.replicate 4 none, consecutiveBad := 0, lastValid := none, silenceEnd := none, helloWaitEnd := none,
    helloPending := false, streamingSince := none, brk := .clear, parityCount := 0, checkCount := 0, jumpCount := 0,
    queue := [], sending := none, inbound := inboundEmpty }

/-- The factory default of lane map entry `l` (R41): lane n on port n - 1. -/
def factoryLane (l : LaneIx) : LaneEntry :=
  { port := some ⟨l.val, by omega⟩, sumSet := 0b0011#4, commitSet := 0b0010#4, gains := Vector.replicate 4 1024,
    zeros := Vector.replicate 4 0, latency := 0, profile := 0, lampEnable := true }

/-- The factory default lane map (R41). -/
def factoryLaneMap : Vector LaneEntry 10 :=
  #v[factoryLane 0, factoryLane 1, factoryLane 2, factoryLane 3, factoryLane 4, factoryLane 5, factoryLane 6, factoryLane 7,
    factoryLane 8, factoryLane 9]

/-- The factory default profile (R43). -/
def factoryProfile : Profile := { tAbs := 250, k := 4, p := 3, unsteady := true }

/-- The factory default profiles (R43). -/
def factoryProfiles : Vector Profile 4 := #v[factoryProfile, factoryProfile, factoryProfile, factoryProfile]

/-- The factory default line settings (R44). -/
def factoryLine : LineSettings :=
  { reactionLimit := 1000, window := 3000, settle := 2500, qualify := 10, pulseLength := 2000, autoRecall := true,
    attnMode := .level, rate := .hz2000 }

/-- R56. -/
def assemblerReset : Assembler :=
  { raw := Vector.replicate 4 none, fresh := Vector.replicate 4 false, overload := Vector.replicate 4 false, gapPending := false }

/-- R65. -/
def ringReset : Ring := { slots := [], writeIndex := 0, count := 0, frozenBy := none }

/-- R102. -/
def detectorReset : Detector :=
  { state := .off, attempt := none, linkOut := false, hold := false, shotTime := none, n := 0, sum := 0, maximum := none,
    minimum := none, quality := false, baseline := none, unsteadyRun := 0, unsteadyReported := false, persistence := 0,
    first := none, runStale := false, runSat := false, held := none, heldAgeEnd := none, longHeld := false }

/-- R81, R83. -/
def sequencerReset : Sequencer :=
  { history := [], nextId := 1, setTime := none, settleEnd := none, windowEnd := none, recallShotEnd := none, earlyEdge := false }

/-- R180. -/
def eventQueueReset : EventQueue := { list := [], overflow := false, owed := 0, pulse := false, pulseThisTick := false }

/-- The line rate that the rate straps give (R166). -/
def rateOfStraps (v : BitVec 2) : LineRate :=
  match v.toNat with
  | 0 => .b38400
  | 1 => .b115200
  | 2 => .b460800
  | _ => .b921600

/-- Whether the five address straps and the parity strap together hold an odd number of ones (R166). -/
def strapsOdd (st : Straps) : Bool :=
  st.address.getLsbD 0 ^^ st.address.getLsbD 1 ^^ st.address.getLsbD 2 ^^ st.address.getLsbD 3 ^^ st.address.getLsbD 4 ^^ st.parity

/-- The station address that the straps give, 1 to 30, or none (R166). -/
def addressOfStraps (st : Straps) : Option Nat :=
  if 1 ≤ st.address.toNat ∧ st.address.toNat ≤ 30 ∧ strapsOdd st = true then some st.address.toNat else none

/-- R166. -/
def hostReset (st : Straps) : HostLine :=
  { rate := rateOfStraps st.rate, address := addressOfStraps st, rx := .hunt, tx := .idle, parityCount := 0, crcCount := 0,
    timeoutCount := 0, restartPending := false }

/-- R188. -/
def storeReset : StorePort := { state := .loading, markerOffset := none, job := .idle, deadline := none, busUsed := false }

end Sys2Proof.Machine
end

