-- ==== Sys2Proof/Machine/State.lean ====
section
/-! DEFINITION. The state of the SL10 as plain data, the reasons a step can stop, and the state after reset. -/

namespace Sys2Proof.Machine

/-- The state of the SL10: every block's state, and the queue of commands that wait, first in, first out. -/
structure State where
  clock       : Time
  pins        : Pins
  resetHeld   : Bool
  started     : Bool
  pistol      : Pistol
  driver      : RecallDriver
  ports       : Vector Port 12
  laneMap     : Vector LaneEntry 10
  profiles    : Vector Profile 4
  line        : LineSettings
  assemblers  : Vector Assembler 10
  rings       : Vector Ring 10
  zeros       : Vector (Option ZeroRun) 10
  detectors   : Vector Detector 10
  seq         : Sequencer
  reservation : Option Nat
  host        : HostLine
  events      : EventQueue
  store       : StorePort
  pending     : List Instr
  deriving DecidableEq, Repr

/-- The reasons the machine can stop with a fault. The spec gives the SL10 none, and no command of the model raises one. -/
inductive Fault where
  /-- Raised by nothing: the spec names no fault that stops the part. Safe. -/
  | noFault
  deriving DecidableEq, Repr

/-- The reasons a command can be without a meaning. No command of the model is refused. -/
inductive Refusal where
  /-- Raised by `exec` for a row with no meaning yet; no arm does. Safe: the run stops. -/
  | notModelled (mnemonic : String)
  deriving DecidableEq, Repr

/-- The part right after a reset with the input pins at these levels (R196); the model's queue is kept. -/
def State.afterReset (pins : Pins) (held : Bool) (pending : List Instr) : State :=
  { clock := 0#32, pins := pins, resetHeld := held, started := false, pistol := pistolReset, driver := .idle,
    ports := Vector.replicate 12 portReset, laneMap := factoryLaneMap, profiles := factoryProfiles, line := factoryLine,
    assemblers := Vector.replicate 10 assemblerReset, rings := Vector.replicate 10 ringReset, zeros := Vector.replicate 10 none,
    detectors := Vector.replicate 10 detectorReset, seq := sequencerReset, reservation := none, host := hostReset pins.straps,
    events := eventQueueReset, store := storeReset, pending := pending }

/-- The machine right after reset: the reset pin just released, no tick taken yet, no command waiting. -/
def State.reset : State := State.afterReset Config.initialPins false []

end Sys2Proof.Machine
end

