-- ==== Sys2Proof/Machine/Ops.lean ====
section
/-! DEFINITION. The named operations that the blocks share: times, access to the banked state, the open record, events, change
notices, and the output pins. -/

namespace Sys2Proof.Machine

/-! ### Times (R2, R3) -/

/-- The difference a - b of two times, a signed 32-bit number (R2). -/
def tdiff (a b : Time) : Int := (a - b).toInt

/-- a before b (R2). -/
def isBefore (a b : Time) : Bool := decide (tdiff a b < 0)

/-- A time plus a number of ticks (R3). -/
def tadd (t : Time) (n : Nat) : Time := t + BitVec.ofNat 32 n

/-- A count plus one that stops at its greatest value. -/
def satInc (limit n : Nat) : Nat := min (n + 1) limit

/-! ### Access to the banked state -/

def State.port (s : State) (p : PortIx) : Port := s.ports[p]
def State.lane (s : State) (l : LaneIx) : LaneEntry := s.laneMap[l]
def State.assembler (s : State) (l : LaneIx) : Assembler := s.assemblers[l]
def State.ring (s : State) (l : LaneIx) : Ring := s.rings[l]
def State.zero (s : State) (l : LaneIx) : Option ZeroRun := s.zeros[l]
def State.detector (s : State) (l : LaneIx) : Detector := s.detectors[l]
def State.profile (s : State) (n : Fin 4) : Profile := s.profiles[n]

def State.setPort (s : State) (p : PortIx) (x : Port) : State := { s with ports := s.ports.set p x }
def State.setLane (s : State) (l : LaneIx) (x : LaneEntry) : State := { s with laneMap := s.laneMap.set l x }
def State.setAssembler (s : State) (l : LaneIx) (x : Assembler) : State := { s with assemblers := s.assemblers.set l x }
def State.setRing (s : State) (l : LaneIx) (x : Ring) : State := { s with rings := s.rings.set l x }
def State.setZero (s : State) (l : LaneIx) (x : Option ZeroRun) : State := { s with zeros := s.zeros.set l x }
def State.setDetector (s : State) (l : LaneIx) (x : Detector) : State := { s with detectors := s.detectors.set l x }
def State.setProfile (s : State) (n : Fin 4) (x : Profile) : State := { s with profiles := s.profiles.set n x }

/-- Every detector of these lanes changed by `f`, the others kept. -/
def State.mapDetectors (s : State) (ls : List LaneIx) (f : Detector → Detector) : State :=
  { s with detectors := Vector.ofFn fun l => if l ∈ ls then f s.detectors[l] else s.detectors[l] }

/-- Every ring of these lanes changed by `f`, the others kept. -/
def State.mapRings (s : State) (ls : List LaneIx) (f : Ring → Ring) : State :=
  { s with rings := Vector.ofFn fun l => if l ∈ ls then f s.rings[l] else s.rings[l] }

/-- An event for each of these lanes, in the order given. -/
def forLanes (ls : List LaneIx) (f : LaneIx → State → State) (s : State) : State := ls.foldl (fun t l => f l t) s

/-- An event for each of these ports, in the order given. -/
def forPorts (ps : List PortIx) (f : PortIx → State → State) (s : State) : State := ps.foldl (fun t p => f p t) s

/-! ### The open record and the line state (R80) -/

/-- A record is open while its state is MARKS, SET or RUNNING. -/
def Record.isOpen (r : Record) : Bool :=
  match r.state with
  | .marks | .set | .running => true
  | .decided | .aborted => false

/-- The lane set of a record. -/
def Record.lanes (r : Record) : List LaneIx := r.results.map (·.lane)

/-- The result of a lane of a record. -/
def Record.result (r : Record) (l : LaneIx) : Option LaneResult := r.results.find? (·.lane = l)

/-- A record with the result of one lane changed. -/
def Record.onLane (r : Record) (l : LaneIx) (f : LaneResult → LaneResult) : Record :=
  { r with results := r.results.map fun x => if x.lane = l then f x else x }

/-- The open record, if there is one. -/
def openRecord (s : State) : Option Record := s.seq.history.find? Record.isOpen

/-- The attempt id of the open record, or 0. -/
def openId (s : State) : Nat := match openRecord s with | some r => r.id | none => 0

/-- The newest record of the history. -/
def newestRecord (s : State) : Option Record := s.seq.history.getLast?

/-- The record of an attempt id. -/
def recordOf (s : State) (id : Nat) : Option Record := s.seq.history.find? (·.id = id)

/-- The lane set of the open record. -/
def openLanes (s : State) : List LaneIx := match openRecord s with | some r => r.lanes | none => []

/-- The line state: that of the open record, or IDLE (R80). -/
def lineState (s : State) : LineState :=
  match openRecord s with
  | none => .idle
  | some r => match r.state with | .marks => .marks | .set => .set | .running => .running | _ => .idle

/-! ### Change notices (R86, R152) -/

/-- A change notice naming an attempt id clears a reservation held on it (R152). -/
def notice (id : Nat) (s : State) : State :=
  if s.reservation = some id then { s with reservation := none } else s

/-- The record of an attempt id changed by `f`; a change notice is given when something changes (R86, R135). -/
def changeRecord (id : Nat) (f : Record → Record) (s : State) : State :=
  let history := s.seq.history.map fun r => if r.id = id then f r else r
  if history = s.seq.history then s else notice id { s with seq := { s.seq with history := history } }

/-! ### Events (R180, R181, R186) -/

/-- An event arrives at the queue: added as the newest, or lost with the overflow mark set when 32 are held; an event added in
PULSE mode owes one pulse (R181, R186). -/
def arrive (mode : AttnMode) (e : Event) (q : EventQueue) : EventQueue :=
  if q.list.length < 32 then
    { q with list := q.list ++ [e], owed := match mode with | .level => q.owed | .pulse => satInc 255 q.owed }
  else { q with overflow := true }

/-- A block places an event, with the time now. -/
def place (kind : EventKind) (lane : Option LaneIx) (attempt : Nat) (value : BitVec 32) (s : State) : State :=
  { s with events := arrive s.line.attnMode { kind := kind, time := s.clock, lane := lane, attempt := attempt, value := value } s.events }

/-! ### Ports and lanes -/

/-- The lane whose lane map entry names a port (section 2.1). -/
def mappedLane (s : State) (p : PortIx) : Option LaneIx := allLanes.find? fun l => (s.lane l).port = some p

/-- A lane has a stream while its port is STREAMING with its mismatched mark clear (R35). -/
def hasStream (s : State) (l : LaneIx) : Bool :=
  match (s.lane l).port with
  | none => false
  | some p => (s.port p).link = .streaming && !(s.port p).mismatched

/-! ### Commands -/

/-- A command on the running part: while the reset pin is held active the part stays in its reset state (R196). -/
def live (f : State → State) (s : State) : Host.Outcome State Fault Refusal := .next (if s.resetHeld then s else f s)

/-! ### Output pins -/

/-- RECALL is active in PULSING (section 1.3). -/
def recallActive (s : State) : Bool := match s.driver with | .idle => false | .pulsing _ => true

/-- ATTN is asserted while a pulse is under way, and in LEVEL mode while the list holds an event (R185, R186, R53). -/
def attnAsserted (s : State) : Bool :=
  s.events.pulse || (match s.line.attnMode with | .level => !s.events.list.isEmpty | .pulse => false)

/-- DE is asserted in SENDING (R177). -/
def deAsserted (s : State) : Bool := match s.host.tx with | .sending _ => true | _ => false

/-- The address fault mark: set when the station address is none (R166). -/
def addressFault (s : State) : Bool := s.host.address.isNone

/-- The transmit line of a port is held low during its break (R18). -/
def txLineLow (s : State) (p : PortIx) : Bool := match (s.port p).brk with | .low _ => true | _ => false

end Sys2Proof.Machine
end

