-- ==== Sys2Proof/Machine/Attention.lean ====
section
/-! DEFINITION. The pulses of the attention line in PULSE mode (R186). -/

namespace Sys2Proof.Machine

/-- ATTN_PULSE_START: with no pulse under way, one is taken from pulses owed and a pulse begins, at most one in each tick (R186). -/
def attnPulseStartStep (s : State) : State :=
  if s.line.attnMode = .pulse ∧ 0 < s.events.owed ∧ s.events.pulse = false ∧ s.events.pulseThisTick = false then
    { s with events := { s.events with owed := s.events.owed - 1, pulse := true, pulseThisTick := true } }
  else s

/-- ATTN_PULSE_END: the pulse under way ends (R186). -/
def attnPulseEndStep (s : State) : State := { s with events := { s.events with pulse := false } }

/-- ATTN_PULSE_START. -/
def execAttnPulseStart (s : State) : Host.Outcome State Fault Refusal := live attnPulseStartStep s

/-- ATTN_PULSE_END. -/
def execAttnPulseEnd (s : State) : Host.Outcome State Fault Refusal := live attnPulseEndStep s

end Sys2Proof.Machine
end

