-- ==== Sys2Proof/Machine/Recall.lean ====
section
/-! DEFINITION. The recall driver (section 1.3). -/

namespace Sys2Proof.Machine

/-- The recall driver takes a pulse request: RECALL active until now + the pulse length in force, and a RECALL_SENT event with
the request's attempt id and value 1 (automatic) or 2 (manual) (R12, R13, R15). -/
def pulseRequest (manual : Bool) (attempt : Nat) (s : State) : State :=
  place .recallSent none attempt (if manual then 2#32 else 1#32)
    { s with driver := .pulsing (tadd s.clock s.line.pulseLength) }

/-- At the expiry of the pulse end time RECALL goes inactive (R14). -/
def recallPulseEndStep (s : State) : State :=
  if s.driver = .pulsing s.clock then { s with driver := .idle } else s

/-- RECALL_PULSE_END. -/
def execRecallPulseEnd (s : State) : Host.Outcome State Fault Refusal := live recallPulseEndStep s

end Sys2Proof.Machine
end

