-- ==== Sys2Proof/Machine/Verdict.lean ====
section
/-! DEFINITION. The verdict unit (chapter 7), with the part of the lane link ports that offers a frame to be sent (R18, R37). -/

namespace Sys2Proof.Machine

/-! ### Offering a frame to a port (R18) -/

/-- A port with nothing being sent and no break being sent begins the oldest waiting frame. -/
def beginNext (x : Port) : Port :=
  match x.sending, x.brk, x.queue with
  | none, .clear, f :: rest => { x with sending := some f, queue := rest }
  | none, .waits, f :: rest => { x with sending := some f, queue := rest }
  | _, _, _ => x

/-- A frame offered to a port joins its queue as the newest, or is dropped while the queue holds 8 (R18). -/
def offerFrame (f : OutFrame) (x : Port) : Port :=
  if x.queue.length < 8 then beginNext { x with queue := x.queue ++ [f] } else x

/-- Lamp-on offered to the port named in the lane's lane map entry (R37, R146). -/
def lampOn (l : LaneIx) (s : State) : State :=
  match (s.lane l).port with
  | none => s
  | some p =>
    if (s.port p).link = .streaming ∧ (s.lane l).lampEnable = true then
      s.setPort p { offerFrame .lampOn (s.port p) with lamp := true }
    else s

/-- Lamp-off at MARKS for a STREAMING port whose lamp state is on (R37, R88). -/
def lampOff (p : PortIx) (s : State) : State :=
  if (s.port p).link = .streaming ∧ (s.port p).lamp = true then s.setPort p { offerFrame .lampOff (s.port p) with lamp := false } else s

/-! ### The false-start list (R136, R137) -/

/-- Lane a with onset ta precedes lane b with onset tb. -/
def precedes (a : LaneIx) (ta : Time) (b : LaneIx) (tb : Time) : Bool :=
  isBefore ta tb || (ta = tb && decide (a < b))

/-- The onset time written in a lane's result. -/
def onsetOf (results : List LaneResult) (l : LaneIx) : Option Time := (results.find? (·.lane = l)).bind (·.onset)

/-- A lane inserted immediately before the first lane of the list that it precedes, or appended. -/
def insertFalse (results : List LaneResult) (a : LaneIx) (ta : Time) : List LaneIx → List LaneIx
  | [] => [a]
  | b :: rest =>
    match onsetOf results b with
    | some tb => if precedes a ta b tb then a :: b :: rest else b :: insertFalse results a ta rest
    | none => b :: insertFalse results a ta rest

/-- The position of a lane in a list, counted from 1. -/
def positionIn (l : LaneIx) (ls : List LaneIx) : Nat := ls.idxOf l + 1

/-- The value of a FALSE_START event: the reaction time or 0x8000 above, the position below (R145, R199). -/
def falseStartValue (rt : Option Int) (position : Nat) : BitVec 32 :=
  (match rt with | some i => BitVec.ofInt 16 i | none => 0x8000#16) ++ BitVec.ofNat 16 position

/-! ### False-start acts (R145 to R147) -/

/-- When automatic recall is on and the open record has no recall pulse time, the time is recorded and the driver is handed an
automatic request (R147). -/
def autoRecall (s : State) : State :=
  match openRecord s with
  | none => s
  | some r =>
    if s.line.autoRecall = true ∧ r.recallPulse = none then
      pulseRequest false r.id (changeRecord r.id (fun r => { r with recallPulse := some s.clock }) s)
    else s

/-- The event of a lane that has become FALSE, and while the record is RUNNING the lamp and the recall (R145, R146, R147). -/
def falseActs (l : LaneIx) (rt : Option Int) (s : State) : State :=
  match openRecord s with
  | none => s
  | some r =>
    let t := place .falseStart (some l) r.id (falseStartValue rt (positionIn l r.falseList)) s
    if r.state = .running then autoRecall (lampOn l t) else t

/-! ### Reports of the onset detectors (R104, R134) -/

/-- The flags of a lane of the open record gain those of a report (R132). -/
def reportFlags (l : LaneIx) (f : LaneFlags) (s : State) : State :=
  match openRecord s with
  | none => s
  | some r => changeRecord r.id (fun r => r.onLane l fun x => { x with flags := x.flags.union f }) s

/-- The baseline report: B, N and the threshold are written, with SHORT_BASE and SAT where carried (R138). -/
def reportBaseline (l : LaneIx) (b : Baseline) (shortBase sat : Bool) (s : State) : State :=
  match openRecord s with
  | none => s
  | some r =>
    changeRecord r.id (fun r => r.onLane l fun x =>
      { x with b := b.b, n := b.n, theta := b.theta, flags := x.flags.union { shortBase := shortBase, sat := sat } }) s

/-- The lane's verdict, when it is still PENDING (R134). -/
def isPending (r : Record) (l : LaneIx) : Bool := match r.result l with | some x => x.verdict = .pending | none => false

/-- A lane that is PENDING is given FALSE with this onset and reaction time, and takes its place in the list (R136, R139, R142). -/
def Record.giveFalse (r : Record) (l : LaneIx) (onset : Time) (rt : Option Int) (f : LaneFlags) : Record :=
  let r1 := r.onLane l fun x => { x with verdict := .falseStart, onset := some onset, rt := rt, flags := x.flags.union f }
  { r1 with falseList := insertFalse r1.results l onset r1.falseList }

/-- The judge report: onset and reaction time are written, the lane is FAIR at or above the reaction limit and FALSE below it, and
a FALSE lane is inserted and acted on (R139, R140). -/
def reportJudge (l : LaneIx) (onset : Time) (rt : Int) (f : LaneFlags) (s : State) : State :=
  match openRecord s with
  | none => s
  | some r =>
    if isPending r l then
      if rt < s.line.reactionLimit then
        falseActs l (some rt) (changeRecord r.id (fun r => r.giveFalse l onset (some rt) f) s)
      else
        changeRecord r.id (fun r => r.onLane l fun x =>
          { x with verdict := .fair, onset := some onset, rt := some rt, flags := x.flags.union f }) s
    else reportFlags l f s

/-- The unsure report: UNSURE for a lane still PENDING, with the flag carried (R141). -/
def reportUnsure (l : LaneIx) (f : LaneFlags) (s : State) : State :=
  match openRecord s with
  | none => s
  | some r =>
    if isPending r l then
      changeRecord r.id (fun r => r.onLane l fun x => { x with verdict := .unsure, flags := x.flags.union f }) s
    else reportFlags l f s

/-- The held crossing report at STAND: FALSE with its onset and no reaction time, inserted and reported (R142). -/
def reportHeld (l : LaneIx) (c : Crossing) (s : State) : State :=
  match openRecord s with
  | none => s
  | some r =>
    let f : LaneFlags := { bounded := c.bounded, stale := c.stale, sat := c.sat }
    if isPending r l then falseActs l none (changeRecord r.id (fun r => r.giveFalse l c.onset none f) s)
    else reportFlags l f s

/-- The watch-ended report: NO_START for a lane still PENDING (R144). -/
def reportWatchEnded (l : LaneIx) (s : State) : State :=
  match openRecord s with
  | none => s
  | some r =>
    if isPending r l then changeRecord r.id (fun r => r.onLane l fun x => { x with verdict := .noStart }) s else s

/-- Every lane of a record still PENDING is VOID (R143). -/
def Record.voidPending (r : Record) : Record :=
  { r with results := r.results.map fun x => if x.verdict = .pending then { x with verdict := .void } else x }

end Sys2Proof.Machine
end

