-- ==== Sys2Proof/Machine/Rings.lean ====
section
/-! DEFINITION. The lane rings (section 4.3): their positions, the write, the freeze and the release, and CHECK_FAULT. -/

namespace Sys2Proof.Machine

/-- The number of slots of a ring (R65). -/
def ringSize : Nat := 2048

/-- The ring index of the entry at a position, 0 for the oldest held (R68). -/
def Ring.indexAt (r : Ring) (p : Nat) : Nat := (r.writeIndex + ringSize - r.count + p) % ringSize

/-- The position of the entry at a ring index (R68). -/
def Ring.positionAt (r : Ring) (i : Nat) : Nat := (i + ringSize + r.count - r.writeIndex) % ringSize

/-- The slot at a ring index, if it has been written. -/
def Ring.slot (r : Ring) (i : Nat) : Option Slot := r.slots[i]?

/-- The newest entry, at ring index write index - 1, modulo 2048 (R68). -/
def Ring.newest (r : Ring) : Option Slot :=
  if r.count = 0 then none else r.slot ((r.writeIndex + ringSize - 1) % ringSize)

/-- The entries held, oldest first, each with its ring index (R68). -/
def Ring.held (r : Ring) : List (Nat × Slot) :=
  (List.range r.count).filterMap fun p => (r.slot (r.indexAt p)).map fun w => (r.indexAt p, w)

/-- A list of slots with the slot of one ring index written; the next slot never written is the one at the list's end. -/
def writeSlot (slots : List Slot) (i : Nat) (w : Slot) : List Slot :=
  if i < slots.length then slots.set i w else slots ++ [w]

/-- A ring whose frozen mark is clear writes an entry at its write index and advances; a frozen ring does not (R66). -/
def Ring.write (r : Ring) (e : Entry) : Ring :=
  match r.frozenBy with
  | some _ => r
  | none =>
    { r with slots := writeSlot r.slots r.writeIndex { entry := e, intact := true }, writeIndex := (r.writeIndex + 1) % ringSize,
             count := min (r.count + 1) ringSize }

/-- The ring index an entry handed to the ring now is written at; none when the ring is frozen (R60, R66). -/
def Ring.nextIndex (r : Ring) : Option Nat := match r.frozenBy with | some _ => none | none => some r.writeIndex

/-- A freeze sets the frozen mark with the attempt id given (R69). -/
def Ring.freeze (id : Nat) (r : Ring) : Ring := { r with frozenBy := some id }

/-- A release clears the frozen mark and keeps the entries (R70). -/
def Ring.release (r : Ring) : Ring := { r with frozenBy := none }

/-- The stored bits of a slot have changed: its check fails from now on (R67). -/
def Ring.upset (i : Nat) (r : Ring) : Ring :=
  { r with slots := r.slots.modify i fun w => { w with intact := false } }

/-- A failed entry read by the onset walk or by TRACE places CHECK_FAULT: the lane, the ring index, and the freezing attempt id of a
frozen ring or the open record's id (R67). -/
def checkFault (l : LaneIx) (i : Nat) (s : State) : State :=
  place .checkFault (some l) (match (s.ring l).frozenBy with | some id => id | none => openId s) (BitVec.ofNat 32 i) s

end Sys2Proof.Machine
end

