-- ==== Sys2Proof/Machine/Detector.lean ====
section
/-! DEFINITION. The onset detectors (chapter 6). -/

namespace Sys2Proof.Machine

/-! ### Baseline capture (R107, R108) -/

/-- The running maximum or minimum of the values accumulated. -/
def orElseMax (m : Option Int) (f : Int) : Option Int := match m with | none => some f | some x => some (max x f)
def orElseMin (m : Option Int) (f : Int) : Option Int := match m with | none => some f | some x => some (min x f)

/-- An entry accumulated into the baseline (R107). -/
def Detector.accumulate (d : Detector) (e : Entry) : Detector :=
  { d with n := d.n + 1, sum := d.sum + e.force, maximum := orElseMax d.maximum e.force, minimum := orElseMin d.minimum e.force,
           quality := d.quality || e.sat || e.ovl }

/-- S / n rounded to the nearest integer, a half toward +infinity (R108). -/
def roundedMean (sum : Int) (n : Nat) : Int := (2 * sum + n) / (2 * n)

/-- B, N, the threshold, L and U from the accumulated samples and the profile (R108). -/
def baselineOf (p : Profile) (d : Detector) : Baseline :=
  let b := roundedMean d.sum d.n
  let n := (d.maximum.getD 0 - d.minimum.getD 0 + 1) / 2
  { b := b, n := n, theta := min (b + max (p.tAbs : Int) (p.k * n)) 30000, l := b + n, u := n + (p.tAbs : Int) / 2 }

/-- The profile that judges a lane. -/
def laneProfile (s : State) (l : LaneIx) : Profile := s.profile (s.lane l).profile

/-- Finalization: the levels are fixed, the baseline report is handed, and the detector enters WATCHING (R108). -/
def finalize (l : LaneIx) (s : State) : State :=
  let d := s.detector l
  let b := baselineOf (laneProfile s l) d
  reportBaseline l b (decide (d.n < 64)) d.quality
    (s.setDetector l { d with baseline := some b, state := .watching, unsteadyRun := 0, persistence := 0 })

/-- An entry taken in CAPTURE with the hold mark clear; the 64th finalizes (R107). -/
def captureEntry (l : LaneIx) (e : Entry) (s : State) : State :=
  let d := (s.detector l).accumulate e
  let t := s.setDetector l d
  if d.n = 64 then finalize l t else t

/-! ### The unsteady test (R113, R114) -/

/-- |F - B| of an entry. -/
def deviation (b : Baseline) (e : Entry) : Nat := (e.force - b.b).natAbs

/-- The unsteady test of an entry taken in WATCHING before the shot is known and with the hold mark clear (R113, R114). -/
def unsteadyTest (l : LaneIx) (e : Entry) (s : State) : State :=
  let d := s.detector l
  match d.baseline with
  | none => s
  | some b =>
    if d.shotTime.isSome ∨ d.hold = true then s
    else if (laneProfile s l).unsteady = true ∧ b.u < (deviation b e : Int) then
      let run := min (d.unsteadyRun + 1) 40
      if run = 40 ∧ d.unsteadyReported = false then
        place .unsteady (some l) (d.attempt.getD 0) (BitVec.ofNat 32 (deviation b e))
          (reportFlags l { unsteady := true } (s.setDetector l { d with unsteadyRun := run, unsteadyReported := true }))
      else s.setDetector l { d with unsteadyRun := run }
    else s.setDetector l { d with unsteadyRun := 0 }

/-! ### The onset walk (R117 to R120) -/

/-- What a walk finds: the onset, BOUNDED, the STALE and SAT marks of the rise, and the ring index of a failed entry it met. -/
structure Walk where
  onset   : Time
  bounded : Bool
  stale   : Bool
  sat     : Bool
  fault   : Option Nat
  deriving DecidableEq, Repr

/-- The steps of the walk. The current entry is at ring index `i` and position `p`, with commit time `t`; `left` further entries may be
read. Each step reads the older neighbour and tests it in the order of R117; the limits are those of R118. -/
def walkSteps (r : Ring) (level : Int) : (left i p : Nat) → (t : Time) → (stale sat : Bool) → Walk
  | 0, _, _, t, stale, sat => { onset := t, bounded := true, stale := stale, sat := sat, fault := none }
  | left + 1, i, p, t, stale, sat =>
    let older := (i + ringSize - 1) % ringSize
    match p, r.slot older with
    | 0, _ => { onset := t, bounded := true, stale := stale, sat := sat, fault := none }
    | _, none => { onset := t, bounded := true, stale := stale, sat := sat, fault := none }
    | q + 1, some w =>
      if w.intact = false then { onset := t, bounded := true, stale := stale, sat := sat, fault := some older }
      else if w.entry.force ≤ level then { onset := t, bounded := false, stale := stale, sat := sat, fault := none }
      else
        let stale := stale || w.entry.stale
        let sat := sat || w.entry.sat || w.entry.ovl
        if w.entry.gap = true then { onset := w.entry.time, bounded := true, stale := stale, sat := sat, fault := none }
        else walkSteps r level left older q w.entry.time stale sat

/-- The walk from the first crossing sample, with the run flags gathered from s1 on (R117, R120). -/
def onsetWalk (r : Ring) (level : Int) (s1 : FirstCrossing) (stale sat : Bool) : Walk :=
  match s1.gap, s1.index with
  | true, _ => { onset := s1.time, bounded := true, stale := stale, sat := sat, fault := none }
  | false, none => { onset := s1.time, bounded := true, stale := stale, sat := sat, fault := none }
  | false, some i => walkSteps r level 64 i (r.positionAt i) s1.time stale sat

/-! ### Reaction time (R122) -/

/-- The reaction time, RT_SAT and EARLY of an onset against T0; `longHeld` is the detector's long-held mark. -/
def reaction (onset t0 : Time) (longHeld : Bool) : Int × Bool × Bool :=
  let d := tdiff onset t0
  if longHeld = true ∧ 0 ≤ d then (-32768, true, true)
  else if 32767 < d then (32767, true, false)
  else if d < -32768 then (-32768, true, true)
  else (d, false, decide (d < 0))

/-- A crossing judged against T0: the judge report (R123, R125). -/
def judgeCrossing (l : LaneIx) (c : Crossing) (t0 : Time) (longHeld : Bool) (s : State) : State :=
  let (rt, rtSat, early) := reaction c.onset t0 longHeld
  reportJudge l c.onset rt { early := early, rtSat := rtSat, bounded := c.bounded, stale := c.stale, sat := c.sat } s

/-! ### Crossing and persistence (R115, R116, R121, R123, R124) -/

/-- A crossing confirmed at the present entry: the walk, the compensated onset, and the judge report or the held crossing. -/
def confirm (l : LaneIx) (s : State) : State :=
  let d := s.detector l
  match d.first, d.baseline with
  | some s1, some b =>
    let w := onsetWalk (s.ring l) b.l s1 d.runStale d.runSat
    let t := match w.fault with | some i => checkFault l i s | none => s
    let c : Crossing := { onset := w.onset - BitVec.ofNat 32 (s.lane l).latency, bounded := w.bounded, stale := w.stale, sat := w.sat }
    match d.shotTime with
    | some t0 => judgeCrossing l c t0 d.longHeld (t.setDetector l { d with state := .done })
    | none =>
      place .earlyMove (some l) (d.attempt.getD 0) c.onset
        (t.setDetector l { d with state := .done, held := some c, heldAgeEnd := some (tadd s.clock 30000) })
  | _, _ => s

/-- An entry at or above the threshold that starts or continues a crossing; the crossing is confirmed when the persistence count
equals P (R116). -/
def countCrossing (l : LaneIx) (d : Detector) (s : State) : State :=
  let t := s.setDetector l d
  if d.persistence = (laneProfile s l).p then confirm l t else t

/-- The crossing test of an entry taken in WATCHING (R115). -/
def crossingTest (l : LaneIx) (e : Entry) (index : Option Nat) (s : State) : State :=
  let d := s.detector l
  match d.baseline with
  | none => s
  | some b =>
    if b.theta ≤ e.force then
      countCrossing l { d with state := .crossing, persistence := 1,
                               first := some { index := index, time := e.time, gap := e.gap },
                               runStale := e.stale, runSat := e.sat || e.ovl } s
    else s

/-- An entry taken in CROSSING (R116). -/
def persistenceEntry (l : LaneIx) (e : Entry) (s : State) : State :=
  let d := s.detector l
  match d.baseline with
  | none => s
  | some b =>
    if b.theta ≤ e.force then
      countCrossing l { d with persistence := d.persistence + 1, runStale := d.runStale || e.stale,
                               runSat := d.runSat || e.sat || e.ovl } s
    else s.setDetector l { d with state := .watching, persistence := 0, first := none, runStale := false, runSat := false }

/-- A committed entry offered to the lane's detector (R105). -/
def offerEntry (l : LaneIx) (e : Entry) (index : Option Nat) (s : State) : State :=
  match (s.detector l).state with
  | .capture => if (s.detector l).hold = true then s else captureEntry l e s
  | .watching => crossingTest l e index (unsteadyTest l e s)
  | .crossing => persistenceEntry l e s
  | .off | .settling | .done => s

/-! ### Notices of the sequencer (R103, R106, R109, R110, R111, R128, R129) -/

/-- A detector made ready at MARKS: OFF with the new attempt, every other field at its reset value (R103). -/
def Detector.prepare (id : Nat) (_d : Detector) : Detector := { detectorReset with attempt := some id }

/-- Told to settle at SET (R106). -/
def Detector.settle (d : Detector) : Detector :=
  if d.state = .off ∧ d.attempt.isSome ∧ d.linkOut = false then { d with state := .settling } else d

/-- Told that the settle has ended (R106). -/
def Detector.settleEnded (d : Detector) : Detector := if d.state = .settling then { d with state := .capture } else d

/-- Told that a pistol edge is being qualified (R109, R113). -/
def Detector.qualificationStarted (d : Detector) : Detector :=
  match d.state with
  | .settling | .capture | .crossing => { d with hold := true }
  | .watching => { d with hold := true, unsteadyRun := 0 }
  | .off | .done => d

/-- Told that the qualification has ended with a glitch: a detector held in WATCHING resumes the unsteady test from a run of 0 (R110,
R113). -/
def Detector.glitched (d : Detector) : Detector :=
  if d.hold = true ∧ d.state = .watching then { d with hold := false, unsteadyRun := 0 } else { d with hold := false }

/-- Told that the shot was fired at T0 (R111, R125). -/
def shotFired (t0 : Time) (l : LaneIx) (s : State) : State :=
  let d := { s.detector l with hold := false, shotTime := some t0 }
  match d.state with
  | .off => if d.linkOut = true then reportUnsure l { link := true } (s.setDetector l { d with state := .done }) else s.setDetector l d
  | .settling => reportUnsure l { shortBase := true } (s.setDetector l { d with state := .done })
  | .capture =>
    if d.n < 16 then reportUnsure l { shortBase := true } (s.setDetector l { d with state := .done })
    else finalize l (s.setDetector l d)
  | .watching | .crossing => s.setDetector l d
  | .done =>
    match d.held with
    | none => s.setDetector l d
    | some c => judgeCrossing l c t0 d.longHeld (s.setDetector l { d with held := none, heldAgeEnd := none })

/-- The close of the attempt for a detector of the record (R128, R129). -/
def Detector.close (d : Detector) : Detector :=
  { d with state := .done, attempt := none, hold := false, held := none, heldAgeEnd := none }

/-- The held crossing report of a detector at STAND (R128). -/
def standDetector (l : LaneIx) (s : State) : State :=
  match (s.detector l).held with
  | some c => reportHeld l c s
  | none => s

/-- The watch-ended report of a detector that is not DONE at the window close (R129). -/
def endWatch (l : LaneIx) (s : State) : State :=
  if (s.detector l).state = .done then s else reportWatchEnded l s

/-- HELD_AGE_END_EXPIRY: the long-held mark is set (R124). -/
def heldAgeEndStep (l : LaneIx) (s : State) : State :=
  if (s.detector l).heldAgeEnd = some s.clock then s.setDetector l { s.detector l with longHeld := true } else s

/-- HELD_AGE_END_EXPIRY. -/
def execHeldAgeEndExpiry (l : LaneIx) (s : State) : Host.Outcome State Fault Refusal := live (heldAgeEndStep l) s

/-! ### The stream-ended notice (R36, R126) -/

/-- The working values abandoned when a lane loses its stream before the shot is known. -/
def Detector.linkLost (d : Detector) : Detector :=
  { d with state := .off, linkOut := true, hold := false, n := 0, sum := 0, maximum := none, minimum := none, quality := false,
           unsteadyRun := 0, persistence := 0, first := none, runStale := false, runSat := false }

/-- The stream-ended notice of a lane (R126). -/
def streamEnded (l : LaneIx) (s : State) : State :=
  let d := s.detector l
  match d.state with
  | .off =>
    if d.attempt.isSome ∧ d.linkOut = false then reportFlags l { link := true } (s.setDetector l { d with linkOut := true }) else s
  | .settling | .capture => reportFlags l { link := true } (s.setDetector l d.linkLost)
  | .watching | .crossing =>
    if d.shotTime.isSome then reportUnsure l { link := true } (s.setDetector l { d with state := .done })
    else reportFlags l { link := true } (s.setDetector l d.linkLost)
  | .done => if d.held.isSome then reportFlags l { link := true } (s.setDetector l { d with linkOut := true }) else s

end Sys2Proof.Machine
end

