-- ==== Sys2Proof/Machine/Link.lean ====
section
/-! DEFINITION. The lane link ports (chapter 2) but for the frames received: link reset, the ways in and out of STREAMING, presence,
and the outbound line; with the parts of the assembler and of ZERO that act at the same events (R58, R77). -/

namespace Sys2Proof.Machine

/-! ### The assembler and ZERO at a link event -/

/-- The assembler of a lane clears its buffer: no value, no marks, and a gap pending (R58). -/
def clearAssembler (l : LaneIx) (s : State) : State :=
  s.setAssembler l { raw := Vector.replicate 4 none, fresh := Vector.replicate 4 false, overload := Vector.replicate 4 false,
                     gapPending := true }

/-- A ZERO in flight on a lane fails with this reason, 1 timeout, 2 link, 3 aborted; offsets unchanged (R76, R77, R78). -/
def failZero (l : LaneIx) (reason : BitVec 32) (s : State) : State :=
  match s.zero l with
  | none => s
  | some _ => place .zeroFail (some l) (openId s) reason (s.setZero l none)

/-! ### Link reset (R28) -/

/-- The state of a port that a link reset and an entry to ABSENT clear: steps 2 to 7 of R28. -/
def Port.forget (x : Port) : Port :=
  { x with expected := Vector.replicate 4 none, lamp := false, capability := none, mismatched := false, consecutiveBad := 0,
           inbound := inboundEmpty, helloPending := false }

/-- A break that waits begins when nothing is being sent and nothing waits before it; `breakEnd` is the break end it then takes (R28). -/
def beginBreak (breakEnd : Time) (x : Port) : Port :=
  match x.brk, x.sending, x.queue with
  | .waits, none, [] => { x with brk := .low breakEnd }
  | _, _, _ => x

/-- The port part of a link reset at the tick `now`: pod knowledge cleared, waiting frames discarded, stream-off first if the port was
STREAMING, then the break; a break that begins at once ends at the next tick (R28). -/
def Port.linkReset (now : Time) (x : Port) : Port :=
  let y := { x.forget with queue := if x.link = .streaming then [.streamOff] else [], brk := .waits,
                           helloWaitEnd := some (tadd now 5000), silenceEnd := none, streamingSince := none, link := .linking }
  beginBreak (tadd now 1) (beginNext y)

/-- A link reset of a port; `lane` is the mapped lane, or the lane mapped before a LANE_SET that unmapped the port. It clears that
lane's buffer and, when the port was STREAMING, ends that lane's ZERO (R28, R58, R77). -/
def linkReset (p : PortIx) (lane : Option LaneIx) (s : State) : State :=
  let was := (s.port p).link
  let t := (match lane with | some l => clearAssembler l s | none => s).setPort p ((s.port p).linkReset s.clock)
  match lane with
  | some l => if was = .streaming then failZero l 2#32 t else t
  | none => t

/-- The stream-ended notice of a port that leaves STREAMING: to the lane given, when the port was STREAMING and not mismatched (R36). -/
def portStreamEnded (p : PortIx) (lane : Option LaneIx) (s : State) : State :=
  match lane with
  | some l => if (s.port p).link = .streaming ∧ (s.port p).mismatched = false then streamEnded l s else s
  | none => s

/-- A link reset that a table change calls for, on a port that is LINKING or STREAMING; `before` is the lane mapped to the port before
the change and `lane` the lane whose buffer is cleared (R29, R36, R48, R52). -/
def tableReset (p : PortIx) (before lane : Option LaneIx) (s : State) : State :=
  if (s.port p).link = .linking ∨ (s.port p).link = .streaming then linkReset p lane (portStreamEnded p before s) else s

/-! ### Leaving STREAMING (R27, R34, R40) -/

/-- A LINK_UP or LINK_LOST event of a port (R40). -/
def linkEvent (kind : EventKind) (p : PortIx) (s : State) : State :=
  place kind (mappedLane s p) (openId s) (BitVec.ofNat 32 p.val) s

/-- Entry to LOST: LINK_LOST, the stream-ended notice, and the link reset that leaves LOST again (R34). -/
def enterLost (p : PortIx) (s : State) : State :=
  linkReset p (mappedLane s p) (portStreamEnded p (mappedLane s p) (linkEvent .linkLost p s))

/-- The port part of an entry to ABSENT (R27). -/
def Port.enterAbsent (x : Port) : Port :=
  { x.forget with queue := [], brk := .clear, helloWaitEnd := none, silenceEnd := none, streamingSince := none, link := .absent }

/-- Entry to ABSENT from LINKING or STREAMING (R27). -/
def enterAbsent (p : PortIx) (s : State) : State :=
  let lane := mappedLane s p
  let was := (s.port p).link
  let t := if was = .streaming then portStreamEnded p lane (linkEvent .linkLost p s) else s
  let u := (match lane with | some l => clearAssembler l t | none => t).setPort p ((t.port p).enterAbsent)
  match lane with
  | some l => if was = .streaming then failZero l 2#32 u else u
  | none => u

/-! ### Entering STREAMING (R30, R35, R38) -/

/-- The channel enable mask of a port's mode frame (R38). -/
def enableMask (s : State) (p : PortIx) : BitVec 4 :=
  match mappedLane s p with
  | some l => (s.lane l).sumSet ||| (s.lane l).commitSet
  | none => 0b1111#4

/-- The highest channel of a set is equal to or greater than a capability (R35). -/
def beyondCapability (set : BitVec 4) (capability : Nat) : Bool := (chansOf set).any fun c => decide (capability ≤ c.val)

/-- Whether a port that enters STREAMING with this capability is mismatched (R35). -/
def isMismatched (s : State) (p : PortIx) (capability : Nat) : Bool :=
  match mappedLane s p with
  | some l => beyondCapability ((s.lane l).sumSet ||| (s.lane l).commitSet) capability
  | none => false

/-- Steps 1 to 5 of R30: mode frame, stream-on, the mismatched mark, the timers, STREAMING and LINK_UP. -/
def enterStreaming (p : PortIx) (s : State) : State :=
  let x := s.port p
  let y := offerFrame .streamOn (offerFrame (.mode s.line.rate (enableMask s p)) x)
  linkEvent .linkUp p (s.setPort p
    { y with mismatched := isMismatched s p (x.capability.getD 0), helloWaitEnd := none, streamingSince := some s.clock,
             lastValid := some s.clock, silenceEnd := some (tadd s.clock 200), consecutiveBad := 0, link := .streaming })

/-- At the end of the load, a LINKING port with its hello pending mark set clears the mark and enters STREAMING (R31, R192). -/
def completeHello (p : PortIx) (s : State) : State :=
  if (s.port p).link = .linking ∧ (s.port p).helloPending = true then
    enterStreaming p (s.setPort p { s.port p with helloPending := false })
  else s

/-! ### Timers and presence -/

/-- SILENCE_END_EXPIRY: a STREAMING port enters LOST (R32). -/
def silenceEndStep (p : PortIx) (s : State) : State :=
  if (s.port p).link = .streaming ∧ (s.port p).silenceEnd = some s.clock then enterLost p s else s

/-- HELLO_WAIT_END_EXPIRY: a LINKING port performs a link reset (R31). -/
def helloWaitEndStep (p : PortIx) (s : State) : State :=
  if (s.port p).link = .linking ∧ (s.port p).helloWaitEnd = some s.clock then linkReset p (mappedLane s p) s else s

/-- The presence run has reached 20 readings that differ from the debounced level (R26). -/
def presenceDue (s : State) (p : PortIx) : Bool := (s.port p).presenceRun = 20

/-- PRESENCE_ACTIVE: the debounced presence becomes active, and an ABSENT port performs a link reset (R26). -/
def presenceActiveStep (p : PortIx) (s : State) : State :=
  if presenceDue s p = true ∧ (s.port p).presence = false then
    let t := s.setPort p { s.port p with presence := true, presenceRun := 0 }
    if (s.port p).link = .absent then linkReset p (mappedLane t p) t else t
  else s

/-- PRESENCE_INACTIVE: the debounced presence becomes inactive, and a LINKING or STREAMING port enters ABSENT (R26, R27). -/
def presenceInactiveStep (p : PortIx) (s : State) : State :=
  if presenceDue s p = true ∧ (s.port p).presence = true then
    let t := s.setPort p { s.port p with presence := false, presenceRun := 0 }
    if (s.port p).link = .linking ∨ (s.port p).link = .streaming then enterAbsent p t else t
  else s

/-- The routine reading of a presence line at a tick (R26). -/
def presenceReading (active : Bool) (x : Port) : Port :=
  if active = x.presence then { x with presenceRun := 0 } else { x with presenceRun := satInc 20 x.presenceRun }

/-- The reading of a presence line at the first tick: the level is taken at once, and a port that reads active makes a link reset (R17). -/
def firstPresence (pins : Pins) (p : PortIx) (s : State) : State :=
  let active := pins.presence.getLsbD p.val
  let t := s.setPort p { s.port p with presence := active, presenceRun := 0 }
  if active then linkReset p (mappedLane t p) t else t

/-! ### The outbound line (R18, R28) -/

/-- OUTBOUND_FRAME_SENT: the frame being sent ends, and the next waiting frame or a waiting break begins. A break that begins within a
tick ends two ticks after that tick (R18, R28). -/
def outboundFrameSentStep (p : PortIx) (s : State) : State :=
  if (s.port p).sending.isSome then
    s.setPort p (beginBreak (tadd s.clock 2) (beginNext { s.port p with sending := none }))
  else s

/-- BREAK_END: the transmit line is released and the waiting frames may be sent (R28). -/
def breakEndStep (p : PortIx) (s : State) : State :=
  if (s.port p).brk = .low s.clock then s.setPort p (beginNext { s.port p with brk := .clear }) else s

/-! ### The commands -/

/-- SILENCE_END_EXPIRY. -/
def execSilenceEndExpiry (p : PortIx) (s : State) : Host.Outcome State Fault Refusal := live (silenceEndStep p) s

/-- HELLO_WAIT_END_EXPIRY. -/
def execHelloWaitEndExpiry (p : PortIx) (s : State) : Host.Outcome State Fault Refusal := live (helloWaitEndStep p) s

/-- PRESENCE_ACTIVE. -/
def execPresenceActive (p : PortIx) (s : State) : Host.Outcome State Fault Refusal := live (presenceActiveStep p) s

/-- PRESENCE_INACTIVE. -/
def execPresenceInactive (p : PortIx) (s : State) : Host.Outcome State Fault Refusal := live (presenceInactiveStep p) s

/-- OUTBOUND_FRAME_SENT. -/
def execOutboundFrameSent (p : PortIx) (s : State) : Host.Outcome State Fault Refusal := live (outboundFrameSentStep p) s

/-- BREAK_END. -/
def execBreakEnd (p : PortIx) (s : State) : Host.Outcome State Fault Refusal := live (breakEndStep p) s

end Sys2Proof.Machine
end

