-- ==== Sys2Proof/Machine/Samples.lean ====
section
/-! DEFINITION. The sample path: assembler, force unit, commit and ZERO (chapter 4). -/

namespace Sys2Proof.Machine

/-! ### The force unit (R61, R62) -/

/-- p / 1024 rounded to the nearest integer, a half away from zero (R61). -/
def roundedContribution (p : Int) : Int := if 0 ≤ p then (p + 512) / 1024 else -((-p + 512) / 1024)

/-- The contribution of a channel: (raw - zero) × gain / 1024 (R61). -/
def contribution (e : LaneEntry) (a : Assembler) (c : Chan) : Int :=
  match a.raw[c] with
  | some r => roundedContribution ((r.toInt - e.zeros[c]) * (e.gains[c] : Int))
  | none => 0

/-- The unsaturated sum over the summation set (R62). -/
def forceSum (e : LaneEntry) (a : Assembler) : Int := ((chansOf e.sumSet).map (contribution e a)).sum

/-- The combined force: the sum held within -3000 to 30 000 dN (R62). -/
def combinedForce (sum : Int) : Int := if 30000 < sum then 30000 else if sum < -3000 then -3000 else sum

/-! ### GAP (R64) -/

/-- The gap limit: four nominal sample intervals (R44, R64). -/
def gapLimit : SampleRate → Int
  | .hz1000 => 40
  | .hz2000 => 20
  | .hz2500 => 16

/-- The GAP flag of an entry committed now (R64); a newest entry 2^31 ticks old or older is not found to exceed the limit (DESIGN CHOICE,
entry 24). -/
def gapFlag (rate : SampleRate) (now : Time) (a : Assembler) (r : Ring) : Bool :=
  a.gapPending ||
    match r.newest with
    | none => false
    | some w => !w.intact || decide (gapLimit rate < tdiff now w.entry.time)

/-- The entry that a commit now makes of a lane's buffer (R60, R61 to R64). -/
def committedEntry (l : LaneIx) (s : State) : Entry :=
  let e := s.lane l
  let a := s.assembler l
  let sum := forceSum e a
  { time := s.clock, force := combinedForce sum, stale := staleFlag e.sumSet a,
    gap := gapFlag s.line.rate s.clock a (s.ring l), sat := satFlag sum, ovl := ovlFlag e.sumSet a }

/-! ### ZERO (R74, R75) -/

/-- A sum of 64 values divided by 64, rounded to the nearest integer, a half toward +infinity (R75). -/
def zeroMean (sum : Int) : Int := (sum + 32) / 64

/-- The zero offsets a ZERO writes: the mean for each summation channel, the others kept (R75). -/
def zeroOffsets (e : LaneEntry) (sums : Vector Int 4) : Vector Int 4 :=
  Vector.ofFn fun c => if e.sumSet.getLsbD c.val then zeroMean sums[c] else e.zeros[c]

/-- The channel sums after one more commit (R74). -/
def zeroSums (sumSet : BitVec 4) (a : Assembler) (sums : Vector Int 4) : Vector Int 4 :=
  Vector.ofFn fun c => if sumSet.getLsbD c.val then sums[c] + (match a.raw[c] with | some r => r.toInt | none => 0) else sums[c]

/-- A commit offered to a lane's ZERO; the 64th succeeds, writes the offsets and places ZERO_DONE (R74, R75). -/
def zeroCommit (l : LaneIx) (s : State) : State :=
  match s.zero l with
  | none => s
  | some z =>
    let e := s.lane l
    let sums := zeroSums e.sumSet (s.assembler l) z.sums
    if z.count + 1 = 64 then
      place .zeroDone (some l) (openId s) 0#32 ((s.setLane l { e with zeros := zeroOffsets e sums }).setZero l none)
    else s.setZero l (some { z with count := z.count + 1, sums := sums })

/-- ZERO_TIMEOUT: at the timeout end the operation fails (R76). -/
def zeroTimeoutStep (l : LaneIx) (s : State) : State :=
  match s.zero l with
  | none => s
  | some z => if z.timeoutEnd = s.clock then failZero l 1#32 s else s

/-- ZERO_TIMEOUT. -/
def execZeroTimeout (l : LaneIx) (s : State) : Host.Outcome State Fault Refusal := live (zeroTimeoutStep l) s

/-! ### Assembly and commit (R57, R59, R60) -/

/-- A sample taken into a lane's buffer (R57). -/
def Assembler.take (e : LaneEntry) (x : Sample) (a : Assembler) : Assembler :=
  { raw := a.raw.set x.chan (some x.raw), fresh := a.fresh.set x.chan true, overload := a.overload.set x.chan x.overload,
    gapPending := a.gapPending || (x.jump && (e.sumSet ||| e.commitSet).getLsbD x.chan.val) }

/-- A sample taken commits when its channel is in the commit set and every summation channel holds a value (R59). -/
def commits (e : LaneEntry) (c : Chan) (a : Assembler) : Bool :=
  e.commitSet.getLsbD c.val && (chansOf e.sumSet).all fun k => a.raw[k].isSome

/-- The marks that a commit clears (R60 step 6). -/
def Assembler.committed (a : Assembler) : Assembler := { a with fresh := Vector.replicate 4 false, gapPending := false }

/-- A commit: the entry to the ring, to the detector and to ZERO, and the marks cleared (R60). -/
def commit (l : LaneIx) (s : State) : State :=
  let e := committedEntry l s
  let index := (s.ring l).nextIndex
  let t := zeroCommit l (offerEntry l e index (s.setRing l ((s.ring l).write e)))
  t.setAssembler l (t.assembler l).committed

/-- A sample handed to the assembler of a lane (R57, R59). -/
def takeSample (l : LaneIx) (x : Sample) (s : State) : State :=
  let e := s.lane l
  let a := (s.assembler l).take e x
  let t := s.setAssembler l a
  if commits e x.chan a then commit l t else t

end Sys2Proof.Machine
end

