-- ==== Sys2Proof/Machine/LinkFrames.lean ====
section
/-! DEFINITION. The receiver of a lane link port: bytes into frames, the judgement of a frame, and the use of a valid one
(sections 2.3, 2.6 and 2.7). -/

namespace Sys2Proof.Machine

/-! ### Bad frames (R22, R32) -/

/-- A bad frame is counted, as a parity/framing error or as a check error, and adds one to the consecutive-bad count; the eighth in a row
in STREAMING enters LOST (R22, R32). -/
def badFrame (parity : Bool) (p : PortIx) (s : State) : State :=
  let x := s.port p
  let y := { x with consecutiveBad := satInc 255 x.consecutiveBad,
                    parityCount := if parity then satInc 65535 x.parityCount else x.parityCount,
                    checkCount := if parity then x.checkCount else satInc 65535 x.checkCount }
  let t := s.setPort p y
  if x.link = .streaming ∧ y.consecutiveBad = 8 then enterLost p t else t

/-! ### Valid frames (R23, R24, R25, R30, R33) -/

/-- The received sequence differs from a known expected one: a sequence jump (R24). -/
def isJump (expected : Option (BitVec 4)) (seq : BitVec 4) : Bool :=
  match expected with
  | some n => decide (n ≠ seq)
  | none => false

/-- The sequence of a channel is tracked: a jump is counted, and the next number is expected (R24). -/
def Port.track (c : Chan) (seq : BitVec 4) (x : Port) : Port :=
  { x with expected := x.expected.set c (some (seq + 1)),
           jumpCount := if isJump x.expected[c] seq then satInc 65535 x.jumpCount else x.jumpCount }

/-- A valid sample frame: discarded but in STREAMING, where its sequence is tracked and it is handed to the mapped lane (R24, R25). -/
def sampleTaken (p : PortIx) (c : Chan) (seq : BitVec 4) (raw : BitVec 16) (overload : Bool) (s : State) : State :=
  let x := s.port p
  if x.link = .streaming then
    let t := s.setPort p (x.track c seq)
    match mappedLane t p with
    | some l => takeSample l { chan := c, raw := raw, overload := overload, jump := isJump x.expected[c] seq } t
    | none => t
  else s

/-- A valid hello of 1 to 4 channels: in LINKING the pod's hello, held pending during LOADING (R30); in STREAMING more than 10 ticks after
streaming since, a restart of the pod (R33). The difference is that of R2 also on a link STREAMING for 2^31 ticks or more, where it is negative
and the hello is discarded (DESIGN CHOICE, entry 24). -/
def helloTaken (p : PortIx) (channels : Nat) (s : State) : State :=
  let x := s.port p
  match x.link with
  | .linking =>
    let t := s.setPort p { x with capability := some channels }
    if s.store.state = .loading then t.setPort p { x with capability := some channels, helloPending := true } else enterStreaming p t
  | .streaming =>
    match x.streamingSince with
    | some since => if 10 < tdiff s.clock since then enterLost p s else s
    | none => s
  | .absent | .lost => s

/-- A valid alive frame: in STREAMING a stream-on is offered, unless one is already waiting (R33). -/
def aliveTaken (p : PortIx) (s : State) : State :=
  let x := s.port p
  if x.link = .streaming ∧ .streamOn ∉ x.queue then s.setPort p (offerFrame .streamOn x) else s

/-- The use of a valid frame by its kind (R23, R200). -/
def useFrame (p : PortIx) (u : LinkUse) (s : State) : State :=
  match u with
  | .sample c seq raw overload => sampleTaken p c seq raw overload s
  | .hello channels => helloTaken p channels s
  | .alive => aliveTaken p s
  | .discarded => s

/-- A valid frame clears the consecutive-bad count, sets the last-valid time, and in STREAMING restarts the silence end (R22, R32). -/
def Port.validFrame (now : Time) (x : Port) : Port :=
  { x with consecutiveBad := 0, lastValid := some now,
           silenceEnd := if x.link = .streaming then some (tadd now 200) else x.silenceEnd }

/-- A valid frame of a port: its marks, then its use. -/
def validFrame (p : PortIx) (u : LinkUse) (s : State) : State := useFrame p u (s.setPort p ((s.port p).validFrame s.clock))

/-! ### The end of a frame (R22) -/

/-- A complete frame, judged in the order of R22; a frame whose start byte came before the break end is discarded uncounted (section 2.3). -/
def frameComplete (p : PortIx) (error early : Bool) (b0 b1 b2 b3 : Byte) (s : State) : State :=
  if early then s
  else if error then badFrame true p s
  else if linkCheckAgrees b0 b1 b2 b3 then validFrame p (linkUse (linkFields b0 b1 b2 b3)) s
  else badFrame false p s

/-- A frame cut short by a start byte (R21, R22). -/
def frameCut (p : PortIx) (error early : Bool) (s : State) : State := if early then s else badFrame error p s

/-! ### Bytes (R21) -/

/-- The port's inbound frame. -/
def setInbound (p : PortIx) (i : Inbound) (s : State) : State := s.setPort p { s.port p with inbound := i }

/-- The break end of the port's current link reset is still to come at the tick `now` (section 2.3). -/
def beforeBreakEnd (now : Time) (x : Port) : Bool :=
  match x.brk with
  | .clear => false
  | .waits => true
  | .low breakEnd => isBefore now breakEnd

/-- A start byte begins a new frame, which is marked when it is begun before the break end. -/
def beginFrame (p : PortIx) (b : RxByte) (early : Bool) (s : State) : State :=
  setInbound p { bytes := [b.data], error := linkError b, early := early || beforeBreakEnd s.clock (s.port p) } s

/-- One byte received by a port (R21). `early`: a start byte among these bytes arrived before the break end. -/
def linkByte (p : PortIx) (early : Bool) (b : RxByte) (s : State) : State :=
  if (s.port p).link = .absent then s
  else
    let i := (s.port p).inbound
    if b.data.msb = true then
      match i.bytes with
      | [] => beginFrame p b early s
      | _ :: _ => beginFrame p b early (frameCut p i.error i.early (setInbound p inboundEmpty s))
    else
      match i.bytes with
      | [] => s
      | [b0, b1, b2] => frameComplete p (i.error || linkError b) i.early b0 b1 b2 b.data (setInbound p inboundEmpty s)
      | held => setInbound p { i with bytes := held ++ [b.data], error := i.error || linkError b } s

/-- The bytes of a frame received by a port, in order. -/
def linkReceive (p : PortIx) (rx : LinkRx) (s : State) : State := rx.bytes.foldl (fun t b => linkByte p rx.early b t) s

/-! ### The commands: the bytes decide how the frame is judged and used; the row of the command is that of a frame so judged -/

/-- SAMPLE_FRAME. -/
def execSampleFrame (p : PortIx) (rx : LinkRx) (s : State) : Host.Outcome State Fault Refusal := live (linkReceive p rx) s

/-- HELLO. -/
def execHello (p : PortIx) (rx : LinkRx) (s : State) : Host.Outcome State Fault Refusal := live (linkReceive p rx) s

/-- ALIVE. -/
def execAlive (p : PortIx) (rx : LinkRx) (s : State) : Host.Outcome State Fault Refusal := live (linkReceive p rx) s

/-- DISCARDED_STATUS_FRAME. -/
def execDiscardedStatusFrame (p : PortIx) (rx : LinkRx) (s : State) : Host.Outcome State Fault Refusal := live (linkReceive p rx) s

/-- BAD_FRAME. -/
def execBadFrame (p : PortIx) (rx : LinkRx) (s : State) : Host.Outcome State Fault Refusal := live (linkReceive p rx) s

end Sys2Proof.Machine
end

