-- ==== Sys2Proof/Machine/Attempt.lean ====
section
/-! DEFINITION. The attempt sequencer (chapter 5): the pistol's notices, the timers of an attempt, and the MARKS, SET, STAND and RECORD
requests. -/

namespace Sys2Proof.Machine

/-! ### Answers to a request -/

/-- What the owner of a request gives back: the state, the reply's status and its payload (R173). -/
structure Served where
  state   : State
  status  : Status
  payload : List Byte

/-- A request accepted with this payload. -/
def accepted (s : State) (payload : List Byte) : Served := { state := s, status := .ok, payload := payload }

/-- A request refused with this status: nothing changes, the payload is empty. -/
def refuse (s : State) (st : Status) : Served := { state := s, status := st, payload := [] }

/-! ### The pistol's notices (R92 to R95) -/

/-- The qualification started notice goes to the detectors of the open record (R92). -/
def qualificationStarted (s : State) : State := s.mapDetectors (openLanes s) Detector.qualificationStarted

/-- The glitch notice goes to the detectors of the open record, and the early edge mark is cleared (R92, R81). -/
def glitchNotice (s : State) : State :=
  let t := s.mapDetectors (openLanes s) Detector.glitched
  { t with seq := { t.seq with earlyEdge := false } }

/-- A shot accepted in SET starts the attempt (R93). -/
def startAttempt (te : Time) (r : Record) (s : State) : State :=
  let t := changeRecord r.id (fun r => { r with t0 := some te, state := .running }) s
  let t := { t with seq := { t.seq with settleEnd := none, windowEnd := some (tadd te s.line.window) } }
  forLanes r.lanes (shotFired te) (place .shot none r.id te t)

/-- A recall shot of a record: its time is recorded if absent, and RECALL_SHOT is placed (R94, R101). -/
def recallShot (te : Time) (r : Record) (s : State) : State :=
  place .recallShot none r.id (te - r.t0.getD 0#32)
    (changeRecord r.id (fun r => { r with recallShot := match r.recallShot with | none => some te | some t => some t }) s)

/-- An unarmed shot (R95, R101). -/
def unarmedShot (s : State) : State := place .unarmedShot none (openId s) ((lineStateCode (lineState s)).setWidth 32) s

/-- In IDLE, a shot at te is a recall shot of the newest record (R94). -/
def recallShotInIdle (te : Time) (s : State) : Option Record :=
  match newestRecord s with
  | none => none
  | some r =>
    match r.t0 with
    | none => none
    | some t0 =>
      if r.state = .decided ∧ s.seq.recallShotEnd.isSome ∧ 1 ≤ tdiff te t0 ∧ tdiff te t0 ≤ 30000 ∧ r.recallShot = none then some r
      else none

/-- What an accepted shot means, by the line state and the history (R93, R94, R95). -/
def shotMeaning (te : Time) (s : State) : State :=
  match openRecord s with
  | some r =>
    match r.state with
    | .set => if s.seq.earlyEdge = false then startAttempt te r s else unarmedShot s
    | .running => recallShot te r s
    | _ => unarmedShot s
  | none => match recallShotInIdle te s with | some r => recallShot te r s | none => unarmedShot s

/-- The shot accepted notice, after which the early edge mark is clear (R81, R93). -/
def shotNotice (te : Time) (s : State) : State :=
  let t := shotMeaning te s
  { t with seq := { t.seq with earlyEdge := false } }

/-! ### The close of an attempt (R96, R97, R98) -/

/-- STAND accepted on the open record `r` (R96); the held crossings are reported in ascending lane number (R142). -/
def standClose (r : Record) (s : State) : State :=
  let t := forLanes r.lanes standDetector s
  let t := changeRecord r.id Record.voidPending t
  let t := t.mapDetectors r.lanes Detector.close
  let t := { t with seq := { t.seq with settleEnd := none, setTime := none } }
  let t := changeRecord r.id (fun r => { r with state := .aborted }) t
  let t := t.mapRings r.lanes (Ring.freeze r.id)
  place .aborted none r.id (BitVec.ofNat 32 ((recordOf t r.id).elim 0 fun r => r.falseList.length)) t

/-- The window close on the open record `r` (R97). -/
def windowClose (r : Record) (s : State) : State :=
  let t := forLanes r.lanes endWatch s
  let t := t.mapDetectors r.lanes Detector.close
  let t := changeRecord r.id (fun r => { r with windowClose := some s.clock, state := .decided }) t
  let t := { t with seq := { t.seq with setTime := none, windowEnd := none,
                                        recallShotEnd := some (tadd (r.t0.getD 0#32) 30101) } }
  let t := t.mapRings r.lanes (Ring.freeze r.id)
  place .decided none r.id (BitVec.ofNat 32 ((recordOf t r.id).elim 0 fun r => r.falseList.length)) t

/-! ### The timers (R91, R97, R81) -/

/-- SETTLE_END_EXPIRY: the lanes still SETTLING enter CAPTURE (R91). -/
def settleEndStep (s : State) : State :=
  if s.seq.settleEnd = some s.clock then
    let t := { s with seq := { s.seq with settleEnd := none } }
    t.mapDetectors (openLanes t) Detector.settleEnded
  else s

/-- WINDOW_CLOSE_EXPIRY: the open record, RUNNING, is closed (R97). -/
def windowCloseStep (s : State) : State :=
  if s.seq.windowEnd = some s.clock then
    match openRecord s with
    | some r => if r.state = .running then windowClose r s else s
    | none => s
  else s

/-- RECALL_SHOT_END_EXPIRY: the recall-shot end is gone (R81). -/
def recallShotEndStep (s : State) : State :=
  if s.seq.recallShotEnd = some s.clock then { s with seq := { s.seq with recallShotEnd := none } } else s

/-- SETTLE_END_EXPIRY. -/
def execSettleEndExpiry (s : State) : Host.Outcome State Fault Refusal := live settleEndStep s

/-- WINDOW_CLOSE_EXPIRY. -/
def execWindowCloseExpiry (s : State) : Host.Outcome State Fault Refusal := live windowCloseStep s

/-- RECALL_SHOT_END_EXPIRY. -/
def execRecallShotEndExpiry (s : State) : Host.Outcome State Fault Refusal := live recallShotEndStep s

/-! ### MARKS (R87, R88, R89) -/

/-- The attempt number of a new record of a heat (R84). -/
def attemptNumber (heat : Nat) (newest : Option Record) : Nat :=
  match newest with
  | none => 1
  | some r => if r.heat = heat then min (r.number + 1) 255 else 1

/-- A lane's result at the creation of its record (R82). -/
def newResult (l : LaneIx) : LaneResult :=
  { lane := l, verdict := .pending, flags := {}, rt := none, onset := none, b := 0, n := 0, theta := 0, decision := none }

/-- A record at its creation (R82). -/
def newRecord (id heat number : Nat) (lanes : List LaneIx) : Record :=
  { id := id, heat := heat, number := number, state := .marks, t0 := none, windowClose := none, recallPulse := none,
    recallShot := none, falseList := [], results := lanes.map newResult }

/-- With 8 records held the oldest is removed, which is a change to it (R85, R86). -/
def removeOldest (s : State) : State :=
  match s.seq.history with
  | r :: rest => if 8 ≤ s.seq.history.length then notice r.id { s with seq := { s.seq with history := rest } } else s
  | [] => s

/-- The attempt id after this one (R83). -/
def nextAttemptId (id : Nat) : Nat := if id < 65535 then id + 1 else 1

/-- Every frozen ring is released, and its lane's gap pending mark set (R70, R88 step 4). -/
def releaseRings (s : State) : State :=
  { s with rings := s.rings.map Ring.release,
           assemblers := Vector.ofFn fun l =>
             if (s.rings[l]).frozenBy.isSome then { s.assemblers[l] with gapPending := true } else s.assemblers[l] }

/-- A lane without a stream at the acceptance of MARKS is handed the stream-ended notice (R89). -/
def marksLink (l : LaneIx) (s : State) : State := if hasStream s l then s else streamEnded l s

/-- An accepted MARKS, in the order of R88; within a step the lanes and the ports come in ascending number (DESIGN CHOICE, entry 21). -/
def marksAccepted (heat : Nat) (lanes : List LaneIx) (s : State) : State :=
  let id := s.seq.nextId
  let number := attemptNumber heat (newestRecord s)
  let t := removeOldest s
  let t := { t with seq := { t.seq with history := t.seq.history ++ [newRecord id heat number lanes], nextId := nextAttemptId id } }
  let t := forLanes lanes (fun l => failZero l 3#32) t
  let t := releaseRings t
  let t := forPorts allPorts lampOff t
  let t := t.mapDetectors lanes (Detector.prepare id)
  forLanes lanes marksLink t

/-- MARKS: heat id, lane mask (R87, R88). -/
def marksRequest (payload : List Byte) (s : State) : Served :=
  match payload with
  | [hh, hl, mh, ml] =>
    match lanesOfMask (mh ++ ml) with
    | none => refuse s .badValue
    | some lanes =>
      if rd16 hh hl = 0 ∨ lanes.any (fun l => (s.lane l).port.isNone) then refuse s .badValue
      else if lineState s ≠ .idle then refuse s .state
      else accepted (marksAccepted (rd16 hh hl) lanes s)
        (be16 s.seq.nextId ++ be8 (attemptNumber (rd16 hh hl) (newestRecord s)))
  | _ => refuse s .badLength

/-! ### SET, STAND, RECORD (R90, R96, R100) -/

/-- A qualification started notice with te before now has been handed over without its ending notice (R90). -/
def earlyEdgeNow (s : State) : Bool :=
  match s.pistol.unit with
  | .qualifying te _ => isBefore te s.clock
  | _ => false

/-- SET accepted on the open record `r` (R90). -/
def setAccepted (r : Record) (s : State) : State :=
  let t := changeRecord r.id (fun r => { r with state := .set }) s
  let t := { t with seq := { t.seq with setTime := some s.clock, earlyEdge := earlyEdgeNow s,
                                        settleEnd := if s.line.settle = 0 then none else some (tadd s.clock s.line.settle) } }
  let t := t.mapDetectors r.lanes Detector.settle
  if s.line.settle = 0 then t.mapDetectors r.lanes Detector.settleEnded else t

/-- SET (R90). -/
def setRequest (payload : List Byte) (s : State) : Served :=
  match payload, openRecord s with
  | [], some r => if r.state = .marks then accepted (setAccepted r s) [] else refuse s .state
  | [], none => refuse s .state
  | _, _ => refuse s .badLength

/-- STAND (R96). -/
def standRequest (payload : List Byte) (s : State) : Served :=
  match payload, openRecord s with
  | [], some r => if r.state = .marks ∨ r.state = .set then accepted (standClose r s) [] else refuse s .state
  | [], none => refuse s .state
  | _, _ => refuse s .badLength

/-- The record that an attempt id names, 0 naming the newest (R100, R153). -/
def namedRecord (s : State) (id : Nat) : Option Record := if id = 0 then newestRecord s else recordOf s id

/-- RECORD (R100). -/
def recordRequest (payload : List Byte) (s : State) : Served :=
  match payload with
  | [h, l] => match namedRecord s (rd16 h l) with | some r => accepted s (recordBytes r) | none => refuse s .noRecord
  | _ => refuse s .badLength

end Sys2Proof.Machine
end

