-- ==== Sys2Proof/Machine/Review.lean ====
section
/-! DEFINITION. The review unit (chapter 8), and the RECALL request of the verdict unit (R148). -/

namespace Sys2Proof.Machine

/-! ### RECALL (R148) -/

/-- The record that a RECALL concerns: the open record while RUNNING, the newest record in IDLE when it is DECIDED (R148). -/
def recallRecord (s : State) : Option Record :=
  match openRecord s with
  | some r => if r.state = .running then some r else none
  | none =>
    match newestRecord s with
    | some r => if r.state = .decided then some r else none
    | none => none

/-- RECALL (R148). -/
def recallServe (payload : List Byte) (s : State) : Served :=
  match payload with
  | [] =>
    match recallRecord s with
    | some r =>
      accepted (pulseRequest true r.id
        (changeRecord r.id (fun r => { r with recallPulse := match r.recallPulse with | none => some s.clock | some t => some t }) s)) []
    | none => refuse s .state
  | _ => refuse s .badLength

/-! ### RESERVE (R153) -/

/-- RESERVE: the record and the reservation are taken in the same event (R153). -/
def reserveServe (payload : List Byte) (s : State) : Served :=
  match payload with
  | [h, l] =>
    match namedRecord s (rd16 h l) with
    | some r => accepted { s with reservation := some r.id } (recordBytes r)
    | none => refuse s .noRecord
  | _ => refuse s .badLength

/-! ### RULE (R155, R156) -/

/-- A referee decision written on a lane of a record, replacing any it held (R156). -/
def Record.ruleOn (r : Record) (l : LaneIx) (d : Decision) : Record := r.onLane l fun x => { x with decision := some d }

/-- An accepted RULE: the decision is written, its own change notice clears the reservation, which is none afterwards (R152, R156). -/
def ruleAccepted (id : Nat) (l : LaneIx) (d : Decision) (s : State) : State :=
  { changeRecord id (fun r => r.ruleOn l d) s with reservation := none }

/-- RULE, tested in the order of R155. -/
def ruleServe (payload : List Byte) (s : State) : Served :=
  match payload with
  | [h, l, lane, dec] =>
    match laneOfByte lane, decisionOfByte dec with
    | some n, some d =>
      if rd16 h l = 0 then refuse s .badValue
      else if s.reservation ≠ some (rd16 h l) then refuse { s with reservation := none } .stale
      else
        match recordOf s (rd16 h l) with
        | none => refuse { s with reservation := none } .stale
        | some r =>
          if n ∉ r.lanes then refuse s .badValue
          else if r.isOpen then refuse s .state
          else accepted (ruleAccepted r.id n d s) []
    | _, _ => refuse s .badValue
  | _ => refuse s .badLength

/-! ### TRACE (R159 to R165) -/

/-- The T0 of the record whose attempt id froze a ring, when the history holds it and it has one (R162). -/
def traceShotTime (id : Nat) (s : State) : Option Time := (recordOf s id).bind (·.t0)

/-- The better of a candidate found so far and an entry: the entry when its check agrees and it is strictly nearer (R162). -/
def nearer (t0 : Time) (best : Option (Nat × Nat)) (p : Nat) (w : Slot) : Option (Nat × Nat) :=
  if w.intact = false then best
  else
    match best with
    | none => some (p, (tdiff w.entry.time t0).natAbs)
    | some (q, d) => if (tdiff w.entry.time t0).natAbs < d then some (p, (tdiff w.entry.time t0).natAbs) else some (q, d)

/-- The search over slots in ascending position, the first of them at position `p`. -/
def nearestFrom (t0 : Time) : (p : Nat) → (best : Option (Nat × Nat)) → List (Nat × Slot) → Option (Nat × Nat)
  | _, best, [] => best
  | p, best, w :: rest => nearestFrom t0 (p + 1) (nearer t0 best p w.2) rest

/-- The position of the entry nearest T0 among those whose check agrees, the older of two equally near (R162). -/
def shotPosition (t0 : Option Time) (held : List (Nat × Slot)) : Option Nat :=
  match t0 with
  | none => none
  | some t => (nearestFrom t 0 none held).map Prod.fst

/-- CHECK_FAULT for each failed entry of a list of entries read, in their order (R165). -/
def traceFaults (l : LaneIx) (read : List (Nat × Slot)) (s : State) : State :=
  (read.filter fun w => !w.2.intact).foldl (fun t w => checkFault l w.1 t) s

/-- The reply payload of an accepted TRACE (R163, section 12.6). -/
def traceBytes (l : LaneIx) (id count : Nat) (shot : Option Nat) (first : Nat) (returned : List (Nat × Slot)) : List Byte :=
  be8 (laneNumber l) ++ be16 id ++ be16 count ++ be16 (shot.getD 0xFFFF) ++ be16 first ++ be8 returned.length
    ++ returned.flatMap fun w => slotBytes w.2

/-- An accepted TRACE of a ring frozen with an attempt id (R160 to R163, R165). With T0 present every entry is read and its failure reported,
also when no entry's check agrees (DESIGN CHOICE, entry 22). -/
def traceAccepted (l : LaneIx) (id first count : Nat) (s : State) : Served :=
  let held := (s.ring l).held
  let returned := (held.drop first).take count
  let t0 := traceShotTime id s
  accepted (traceFaults l (if t0.isSome then held else returned) s)
    (traceBytes l id (s.ring l).count (shotPosition t0 held) first returned)

/-- TRACE, tested in the order of R159. -/
def traceServe (payload : List Byte) (s : State) : Served :=
  match payload with
  | [lane, fh, fl, count] =>
    match laneOfByte lane with
    | none => refuse s .badValue
    | some l =>
      if count.toNat < 1 ∨ 28 < count.toNat then refuse s .badValue
      else if 2047 < rd16 fh fl then refuse s .badValue
      else
        match (s.ring l).frozenBy with
        | none => refuse s .notFrozen
        | some id =>
          if (1 ≤ (s.ring l).count ∧ (s.ring l).count ≤ rd16 fh fl) ∨ ((s.ring l).count = 0 ∧ rd16 fh fl ≠ 0) then refuse s .badValue
          else traceAccepted l id (rd16 fh fl) count.toNat s
  | _ => refuse s .badLength

end Sys2Proof.Machine
end

