-- ==== Sys2Proof/Machine/Tables.lean ====
section
/-! DEFINITION. The requests that write and read the configuration tables (chapter 3), and the requests ZERO (R72, R73) and PORT (R39). -/

namespace Sys2Proof.Machine

/-- The store is SAVING or LOADING, in which no table is written by a request (R47, R50, R51). -/
def tablesLocked (s : State) : Bool := s.store.state = .saving || s.store.state = .loading

/-! ### LANE_SET and LANE_GET (R46, R47, R48, R54) -/

/-- A port is named by the lane map entry of a lane other than `l` (R46). -/
def heldByOther (s : State) (l : LaneIx) (p : Option PortIx) : Bool :=
  p.isSome && allLanes.any fun k => k ≠ l && (s.lane k).port = p

/-- The link resets that a change of a lane's entry calls for (R48). Each clears the buffer of the lane named. -/
def laneSetResets (l : LaneIx) (old new : LaneEntry) (s : State) : State :=
  if old.port = new.port then
    match new.port with
    | some p => if old.sumSet ≠ new.sumSet ∨ old.commitSet ≠ new.commitSet then tableReset p (some l) (some l) s else s
    | none => s
  else
    let t := match old.port with | some p => tableReset p (some l) (some l) s | none => s
    match new.port with
    | some q => tableReset q none (some l) t
    | none => t

/-- An accepted LANE_SET (R48). -/
def laneSetAccepted (l : LaneIx) (e : LaneEntry) (s : State) : State := laneSetResets l (s.lane l) e (s.setLane l e)

/-- LANE_SET (R45 to R48). -/
def laneSetServe (payload : List Byte) (s : State) : Served :=
  match payload with
  | lane :: entry =>
    match laneOfByte lane, laneEntryOfBytes entry with
    | some l, some e =>
      if heldByOther s l e.port then refuse s .badValue
      else if l ∈ openLanes s ∨ (s.zero l).isSome ∨ tablesLocked s = true then refuse s .busy
      else accepted (laneSetAccepted l e s) []
    | _, _ => refuse s .badValue
  | [] => refuse s .badLength

/-- LANE_GET (R54). -/
def laneGetServe (payload : List Byte) (s : State) : Served :=
  match payload with
  | [lane] =>
    match laneOfByte lane with
    | some l => accepted s (be8 (laneNumber l) ++ laneEntryBytes (s.lane l))
    | none => refuse s .badValue
  | _ => refuse s .badLength

/-! ### PROFILE_SET and PROFILE_GET (R50, R54) -/

/-- A lane of the open record has this profile in its entry (R50). -/
def profileInUse (s : State) (n : Fin 4) : Bool := (openLanes s).any fun l => (s.lane l).profile = n

/-- PROFILE_SET (R50). -/
def profileSetServe (payload : List Byte) (s : State) : Served :=
  match payload with
  | num :: fields =>
    match profileOfByte num, profileOfBytes fields with
    | some n, some p =>
      if profileInUse s n = true ∨ tablesLocked s = true then refuse s .busy else accepted (s.setProfile n p) []
    | _, _ => refuse s .badValue
  | [] => refuse s .badLength

/-- PROFILE_GET (R54). -/
def profileGetServe (payload : List Byte) (s : State) : Served :=
  match payload with
  | [num] =>
    match profileOfByte num with
    | some n => accepted s (be8 n.val ++ profileBytes (s.profile n))
    | none => refuse s .badValue
  | _ => refuse s .badLength

/-! ### LINE_SET and LINE_GET (R51, R52, R53, R54, R187) -/

/-- The event queue when the ATTN mode changes: no pulse is owed; a change to PULSE releases ATTN, and a change to LEVEL lets the pulse
under way run to its end (R53, R187). -/
def attnModeChange (old new : AttnMode) (q : EventQueue) : EventQueue :=
  if old = new then q
  else
    match new with
    | .pulse => { q with owed := 0, pulse := false }
    | .level => { q with owed := 0 }

/-- The link resets of a change of sample rate: every port that is LINKING or STREAMING, in ascending number (R52; the order is DESIGN
CHOICE, entry 21). -/
def rateResets (s : State) : State := forPorts allPorts (fun p t => tableReset p (mappedLane t p) (mappedLane t p) t) s

/-- An accepted LINE_SET (R51, R52, R53). -/
def lineSetAccepted (c : LineSettings) (s : State) : State :=
  let t := { s with line := c, events := attnModeChange s.line.attnMode c.attnMode s.events }
  if s.line.rate = c.rate then t else rateResets t

/-- LINE_SET (R51). -/
def lineSetServe (payload : List Byte) (s : State) : Served :=
  match lineOfBytes payload with
  | none => refuse s .badValue
  | some c => if lineState s ≠ .idle ∨ tablesLocked s = true then refuse s .busy else accepted (lineSetAccepted c s) []

/-- LINE_GET (R54). -/
def lineGetServe (payload : List Byte) (s : State) : Served :=
  match payload with
  | [] => accepted s (lineBytes s.line)
  | _ => refuse s .badLength

/-! ### ZERO (R72, R73) -/

/-- The ZERO state of a lane at the acceptance (R73). -/
def zeroStart (now : Time) : ZeroRun := { count := 0, sums := Vector.replicate 4 0, timeoutEnd := tadd now 5000 }

/-- ZERO, tested in the order of R72. -/
def zeroServe (payload : List Byte) (s : State) : Served :=
  match payload with
  | [lane] =>
    match laneOfByte lane with
    | none => refuse s .badValue
    | some l =>
      if (s.lane l).port = none then refuse s .badValue
      else if lineState s ≠ .idle then refuse s .state
      else if hasStream s l = false then refuse s .state
      else if (s.zero l).isSome then refuse s .busy
      else if s.store.state = .saving then refuse s .busy
      else accepted (s.setZero l (some (zeroStart s.clock))) []
  | _ => refuse s .badLength

/-! ### PORT (R39) -/

/-- The byte of an expected sequence: 0 to 15, or 0xFF for unknown. -/
def expectedByte (e : Option (BitVec 4)) : Byte := match e with | some n => n.setWidth 8 | none => 0xFF#8

/-- The byte of a lane or absent. -/
def laneByte (l : Option LaneIx) : Byte := match l with | some l => BitVec.ofNat 8 (laneNumber l) | none => 0#8

/-- The PORT reply (section 12.5). -/
def portBytes (p : PortIx) (s : State) : List Byte :=
  let x := s.port p
  be8 p.val ++ [linkStateCode x.link, laneByte (mappedLane s p)] ++ beBool x.presence ++ be8 (x.capability.getD 0)
    ++ beBool x.mismatched ++ beBool x.lamp ++ beBool x.lastValid.isSome ++ beTime x.lastValid ++ be8 x.consecutiveBad
    ++ [expectedByte x.expected[0], expectedByte x.expected[1], expectedByte x.expected[2], expectedByte x.expected[3]]
    ++ be16 x.parityCount ++ be16 x.checkCount ++ be16 x.jumpCount

/-- A port with its three error counts at 0. -/
def Port.clearCounts (x : Port) : Port := { x with parityCount := 0, checkCount := 0, jumpCount := 0 }

/-- PORT: the reply is built, then a clear mark of 1 sets the three error counts to 0 (R39). -/
def portServe (payload : List Byte) (s : State) : Served :=
  match payload with
  | [num, clear] =>
    match portOfByte num, flagOfByte clear with
    | some p, some c => accepted (if c then s.setPort p (s.port p).clearCounts else s) (portBytes p s)
    | _, _ => refuse s .badValue
  | _ => refuse s .badLength

end Sys2Proof.Machine
end

