-- ==== Sys2Proof/Machine/Store.lean ====
section
/-! DEFINITION. The store port (chapter 11): the stored image, the start-up load, the save, and STORE_SAVE. -/

namespace Sys2Proof.Machine

/-! ### The image that STORE_SAVE writes (R190, section 12.8) -/

/-- The two bytes of the end marker. -/
def endMarker : List Byte := [0xC0#8, 0xDE#8]

/-- The record of a lane map entry. -/
def laneRecord (l : LaneIx) (e : LaneEntry) : List Byte := [0x01#8, 23#8, BitVec.ofNat 8 (laneNumber l)] ++ laneEntryBytes e

/-- The record of a profile. -/
def profileRecord (n : Fin 4) (p : Profile) : List Byte := [0x02#8, 6#8, BitVec.ofNat 8 n.val] ++ profileBytes p

/-- The record of the line settings. -/
def lineRecord (c : LineSettings) : List Byte := [0x03#8, 12#8] ++ lineBytes c

/-- The sum of bytes, each a number from 0 to 255. -/
def byteSum (bytes : List Byte) : Nat := (bytes.map BitVec.toNat).sum

/-- The checksum that makes the sum of these bytes and itself 0 modulo 65 536 (R190). -/
def checksumOf (bytes : List Byte) : Nat := (65536 - byteSum bytes % 65536) % 65536

/-- The header and the 15 records: lanes ascending, profiles ascending, line settings (R190). -/
def imageBody (laneMap : Vector LaneEntry 10) (profiles : Vector Profile 4) (line : LineSettings) : List Byte :=
  [0x51#8, 15#8] ++ allLanes.flatMap (fun l => laneRecord l laneMap[l]) ++ allChans.flatMap (fun n => profileRecord n profiles[n])
    ++ lineRecord line

/-- The whole image. -/
def saveImage (s : State) : List Byte :=
  let body := imageBody s.laneMap s.profiles s.line ++ endMarker
  body ++ be16 (checksumOf body)

/-! ### Reading an image (R191) -/

/-- The working copy of the tables, with what has been named by a record. -/
structure LoadCopy where
  laneMap      : Vector LaneEntry 10
  profiles     : Vector Profile 4
  line         : LineSettings
  seenLanes    : List LaneIx
  seenProfiles : List (Fin 4)
  seenLine     : Bool
  deriving DecidableEq, Repr

/-- The working copy begins as the factory defaults. -/
def loadCopyStart : LoadCopy :=
  { laneMap := factoryLaneMap, profiles := factoryProfiles, line := factoryLine, seenLanes := [], seenProfiles := [], seenLine := false }

/-- What the bytes read so far say: more must be read, the image is rejected, or it is accepted; with the offset of the end marker
when it has been found at its place. -/
inductive LoadFinding where
  | more (marker : Option Nat)
  | bad (marker : Option Nat)
  | good (copy : LoadCopy) (marker : Nat)
  deriving DecidableEq, Repr

/-- The length that a record of a type has, or none for a type that is none of the three. -/
def recordLength (ty : Byte) : Option Nat :=
  if ty = 0x01#8 then some 23 else if ty = 0x02#8 then some 6 else if ty = 0x03#8 then some 12 else none

/-- A record's fields taken into the working copy; none when a field is out of range or the thing it names has been named before. -/
def LoadCopy.take (w : LoadCopy) (ty : Byte) (fields : List Byte) : Option LoadCopy :=
  if ty = 0x03#8 then
    match lineOfBytes fields with
    | some c => if w.seenLine then none else some { w with line := c, seenLine := true }
    | none => none
  else
    match fields with
    | [] => none
    | key :: rest =>
      if ty = 0x01#8 then
        match laneOfByte key, laneEntryOfBytes rest with
        | some l, some e => if l ∈ w.seenLanes then none else some { w with laneMap := w.laneMap.set l e, seenLanes := l :: w.seenLanes }
        | _, _ => none
      else
        match profileOfByte key, profileOfBytes rest with
        | some n, some p =>
          if n ∈ w.seenProfiles then none else some { w with profiles := w.profiles.set n p, seenProfiles := n :: w.seenProfiles }
        | _, _ => none

/-- No port is named by two lanes of a lane map (R191). -/
def portsDistinct (laneMap : Vector LaneEntry 10) : Bool :=
  allLanes.all fun l => allLanes.all fun k => l = k || laneMap[l].port.isNone || laneMap[l].port ≠ laneMap[k].port

/-- The end marker and the checksum, the marker at offset `o`; `all` is everything read so far. -/
def loadEnd (all : List Byte) (o : Nat) (copy : LoadCopy) (bytes : List Byte) : LoadFinding :=
  match bytes with
  | m0 :: m1 :: rest =>
    if [m0, m1] = endMarker then
      match rest with
      | h :: l :: _ =>
        if (byteSum (all.take (o + 2)) + rd16 h l) % 65536 = 0 ∧ portsDistinct copy.laneMap = true then .good copy o else .bad (some o)
      | _ => .more (some o)
    else .bad none
  | _ => .more none

/-- The records still to come, the next at offset `o`. -/
def loadRecords (all : List Byte) : (left o : Nat) → LoadCopy → List Byte → LoadFinding
  | 0, o, copy, bytes => loadEnd all o copy bytes
  | left + 1, o, copy, bytes =>
    match bytes with
    | [] => .more none
    | ty :: rest =>
      match recordLength ty with
      | none => .bad none
      | some len =>
        match rest with
        | [] => .more none
        | given :: fields =>
          if given.toNat ≠ len then .bad none
          else if 1019 < o + 1 + len then .bad none
          else if fields.length < len then .more none
          else
            match copy.take ty (fields.take len) with
            | none => .bad none
            | some w => loadRecords all left (o + 2 + len) w (fields.drop len)

/-- The tests of R191 over the bytes read so far, in reading order, the first failing test deciding. -/
def loadFinding (all : List Byte) : LoadFinding :=
  match all with
  | [] => .more none
  | code :: rest =>
    if code ≠ 0x51#8 then .bad none
    else
      match rest with
      | [] => .more none
      | count :: records => loadRecords all count.toNat 2 loadCopyStart records

/-! ### Transactions on the two-wire bus (R189) -/

/-- The device address of the EEPROM (R189). -/
def deviceAddress : Byte := 0x50#8

/-- The bytes that the store port sends in a transaction, each of which the EEPROM must acknowledge for it to be taken (R189; the form of
the device address on the bus, entry 23). -/
def Transaction.sent : Transaction → List Byte
  | .address => [deviceAddress]
  | .read offset => [deviceAddress] ++ be16 offset ++ [deviceAddress]
  | .write offset data => [deviceAddress] ++ be16 offset ++ data

/-- The acknowledges that the store port gives in a transaction, in order, one for each byte that it reads: a read reads 16 bytes and
acknowledges each but the last (R189). -/
def Transaction.acknowledges : Transaction → List Bool
  | .read _ => List.replicate 15 true ++ [false]
  | .address | .write _ _ => []

/-- The acknowledge deadline is still to come (R191, R195). -/
def beforeDeadline (s : State) : Bool := match s.store.deadline with | some d => isBefore s.clock d | none => false

/-- The offset and bytes of the write in hand of a save: the byte that breaks the old end marker, or a page (R195). -/
def SaveRun.write (run : SaveRun) : Transaction :=
  match run.breaking with
  | some m => .write m [0x00#8]
  | none => .write run.nextOffset ((run.image.drop run.nextOffset).take 16)

/-- The transaction that the store port makes next at the present tick, none when it makes none: the load's address transaction until it is
taken, then one read at each tick from the next on; the save's write until it is taken, then one poll at each tick from the next on (R189,
R191, R195). -/
def currentTransaction (s : State) : Option Transaction :=
  match s.store.job with
  | .idle => none
  | .addressing => if beforeDeadline s then some .address else none
  | .reading got => if s.store.busUsed then none else some (.read got.length)
  | .saving run =>
    if beforeDeadline s = false then none
    else if run.taken = false then some run.write
    else if s.store.busUsed then none
    else some .address

/-! ### The load (R191, R192) -/

/-- The start of the load at the first tick: an address transaction, its deadline 200 ticks on (R191). -/
def beginLoad (s : State) : State :=
  { s with store := { s.store with job := .addressing, deadline := some (tadd s.clock 200), busUsed := false } }

/-- The tables that a load leaves: those of an accepted image, or those in force (R192 step 1). -/
def loadTables (copy : Option LoadCopy) (s : State) : State :=
  match copy with
  | some w => { s with laneMap := w.laneMap, profiles := w.profiles, line := w.line }
  | none => s

/-- The end of the load: tables, store state, ATTN mode, pending hellos, the ports in ascending number (R192; the order is DESIGN CHOICE,
entry 21). -/
def endLoad (outcome : StoreState) (copy : Option LoadCopy) (marker : Option Nat) (s : State) : State :=
  let t := loadTables copy s
  forPorts allPorts completeHello
    { t with events := attnModeChange s.line.attnMode t.line.attnMode s.events,
             store := { state := outcome, markerOffset := marker, job := .idle, deadline := none, busUsed := false } }

/-- LOAD_ADDRESS_ACKNOWLEDGED: before the deadline, the reading begins at the next tick (R191). -/
def loadAddressStep (s : State) : State :=
  match s.store.job, currentTransaction s with
  | .addressing, some _ => { s with store := { s.store with job := .reading [], deadline := none, busUsed := true } }
  | _, _ => s

/-- LOAD_ACKNOWLEDGE_DEADLINE: no acknowledge has come (R191). -/
def loadDeadlineStep (s : State) : State :=
  if s.store.job = .addressing ∧ s.store.deadline = some s.clock then endLoad .defaultsAbsent none s.store.markerOffset s else s

/-- The marker offset after a finding: the one found, or the one held. -/
def markerAfter (found held : Option Nat) : Option Nat := match found with | some o => some o | none => held

/-- LOAD_READ: one read transaction of a tick (R191). -/
def loadReadStep (taken : Option (Vector Byte 16)) (s : State) : State :=
  match s.store.job, currentTransaction s with
  | .reading got, some _ =>
    match taken with
    | none => endLoad .defaultsAbsent none s.store.markerOffset s
    | some v =>
      match loadFinding (got ++ v.toList) with
      | .more m =>
        { s with store := { s.store with job := .reading (got ++ v.toList), markerOffset := markerAfter m s.store.markerOffset,
                                         busUsed := true } }
      | .bad m => endLoad .defaultsBad none (markerAfter m s.store.markerOffset) s
      | .good w o => endLoad .loaded (some w) (some o) s
  | _, _ => s

/-! ### The save (R194, R195) -/

/-- The page at an offset is the last of an image. -/
def isLastPage (image : List Byte) (o : Nat) : Bool := decide (image.length ≤ o + 16)

/-- The page at an offset is first sent: its deadline is set, and before the last page the marker offset is the new one (R195). -/
def sendPage (image : List Byte) (o : Nat) (s : State) : State :=
  { s with store := { s.store with job := .saving { image := image, nextOffset := o, breaking := none, taken := false },
                                   deadline := some (tadd s.clock 200),
                                   markerOffset := if isLastPage image o then some (image.length - 4) else s.store.markerOffset } }

/-- The first write of a save: the byte that breaks the old end marker, when its offset is known, or page 0 (R195 step 1). -/
def beginSave (image : List Byte) (s : State) : State :=
  match s.store.markerOffset with
  | some m =>
    { s with store := { s.store with job := .saving { image := image, nextOffset := 0, breaking := some m, taken := false },
                                     deadline := some (tadd s.clock 200) } }
  | none => sendPage image 0 s

/-- An accepted STORE_SAVE (R194). -/
def saveAccepted (s : State) : State :=
  beginSave (saveImage s) { s with store := { s.store with state := .saving, busUsed := false } }

/-- A ZERO is in flight on some lane. -/
def anyZero (s : State) : Bool := allLanes.any fun l => (s.zero l).isSome

/-- STORE_SAVE (R194). -/
def storeSaveServe (payload : List Byte) (s : State) : Served :=
  match payload with
  | [] =>
    if lineState s ≠ .idle ∨ anyZero s = true ∨ s.store.state = .saving ∨ s.store.state = .loading then refuse s .busy
    else accepted (saveAccepted s) []
  | _ => refuse s .badLength

/-- The save ends: its image, next offset and deadline are cleared, and its event is placed (R195). -/
def endSave (outcome : StoreState) (kind : EventKind) (value : Nat) (s : State) : State :=
  place kind none 0 (BitVec.ofNat 32 value)
    { s with store := { s.store with state := outcome, job := .idle, deadline := none, busUsed := false } }

/-- SAVE_WRITE_TAKEN: the EEPROM takes the write in hand before its deadline; the polls begin at the next tick (R195). -/
def saveTakenStep (s : State) : State :=
  match s.store.job, currentTransaction s with
  | .saving run, some (.write _ _) =>
    { s with store := { s.store with job := .saving { run with taken := true }, deadline := some (tadd s.clock 200), busUsed := true } }
  | _, _ => s

/-- SAVE_WRITE_STORED: a poll is acknowledged before the deadline; the next write is sent in the same tick, or the save completes (R189,
R195). -/
def saveStoredStep (s : State) : State :=
  match s.store.job, currentTransaction s with
  | .saving run, some .address =>
    match run.breaking with
    | some _ => sendPage run.image 0 s
    | none =>
      if isLastPage run.image run.nextOffset then endSave .loaded .storeDone run.image.length s
      else sendPage run.image (run.nextOffset + 16) s
  | _, _ => s

/-- SAVE_ACKNOWLEDGE_DEADLINE: the write in hand has not been taken or stored in time (R195). -/
def saveDeadlineStep (s : State) : State :=
  match s.store.job with
  | .saving run =>
    if s.store.deadline = some s.clock then
      endSave .saveFailed .storeFail (match run.breaking with | some _ => 0 | none => run.nextOffset) s
    else s
  | _ => s

/-! ### The commands -/

/-- LOAD_ADDRESS_ACKNOWLEDGED. -/
def execLoadAddressAcknowledged (s : State) : Host.Outcome State Fault Refusal := live loadAddressStep s

/-- LOAD_ACKNOWLEDGE_DEADLINE. -/
def execLoadAcknowledgeDeadline (s : State) : Host.Outcome State Fault Refusal := live loadDeadlineStep s

/-- LOAD_READ. -/
def execLoadRead (taken : Option (Vector Byte 16)) (s : State) : Host.Outcome State Fault Refusal := live (loadReadStep taken) s

/-- SAVE_WRITE_TAKEN. -/
def execSaveWriteTaken (s : State) : Host.Outcome State Fault Refusal := live saveTakenStep s

/-- SAVE_WRITE_STORED. -/
def execSaveWriteStored (s : State) : Host.Outcome State Fault Refusal := live saveStoredStep s

/-- SAVE_ACKNOWLEDGE_DEADLINE. -/
def execSaveAcknowledgeDeadline (s : State) : Host.Outcome State Fault Refusal := live saveDeadlineStep s

end Sys2Proof.Machine
end

