-- ==== Sys2Proof/Machine/HostLine.lean ====
section
/-! DEFINITION. The host line interface (chapter 9) with the STATUS, EVENTS and RESTART requests, and the receiver of request frames. -/

namespace Sys2Proof.Machine

/-! ### Reset (R196) -/

/-- The reset that RESTART brings: the same as the reset pin's, the straps read from the pins as they stand. -/
def doReset (s : State) : State := State.afterReset s.pins false s.pending

/-! ### STATUS (R179, section 12.5) -/

/-- The two bytes of a port in the STATUS reply. -/
def statusPortBytes (s : State) (p : PortIx) : List Byte := [linkStateCode (s.port p).link, laneByte (mappedLane s p)]

/-- The 43 bytes of the STATUS reply. -/
def statusBytes (s : State) : List Byte :=
  [lineStateCode (lineState s)] ++ be16 (openId s) ++ be32 s.clock ++ allPorts.flatMap (statusPortBytes s)
    ++ [storeStateCode s.store.state] ++ be16 s.host.parityCount ++ be16 s.host.crcCount ++ be16 s.host.timeoutCount
    ++ be8 s.events.list.length ++ beBool s.events.overflow ++ identification

/-- The host line interface with its three counters at 0. -/
def HostLine.clearCounts (h : HostLine) : HostLine := { h with parityCount := 0, crcCount := 0, timeoutCount := 0 }

/-- STATUS: the reply is built, then a clear mark of 1 sets the three counters to 0 (R179). -/
def statusServe (payload : List Byte) (s : State) : Served :=
  match payload with
  | [clear] =>
    match flagOfByte clear with
    | some c => accepted (if c then { s with host := s.host.clearCounts } else s) (statusBytes s)
    | none => refuse s .badValue
  | _ => refuse s .badLength

/-! ### EVENTS (R183, section 12.6) -/

/-- The EVENTS reply: overflow mark, number returned, number left, and the events taken. -/
def fetchedBytes (n : Nat) (q : EventQueue) : List Byte :=
  beBool q.overflow ++ be8 (q.list.take n).length ++ be8 (q.list.drop n).length ++ (q.list.take n).flatMap eventBytes

/-- The queue after the oldest `n` events have been removed and the overflow mark cleared. -/
def EventQueue.fetch (n : Nat) (q : EventQueue) : EventQueue := { q with list := q.list.drop n, overflow := false }

/-- EVENTS (R183). -/
def eventsServe (payload : List Byte) (s : State) : Served :=
  match payload with
  | [m] =>
    match inRange 1 16 m.toNat with
    | some n => accepted { s with events := s.events.fetch n } (fetchedBytes n s.events)
    | none => refuse s .badValue
  | _ => refuse s .badLength

/-- RESTART: accepted with nothing done until its reset (R196). -/
def restartServe (payload : List Byte) (s : State) : Served :=
  match payload with
  | [] => accepted s []
  | _ => refuse s .badLength

/-! ### Serving a request (R173) -/

/-- The owner of each request kind. -/
def serveKind (k : Kind) (payload : List Byte) (s : State) : Served :=
  match k with
  | .status => statusServe payload s
  | .events => eventsServe payload s
  | .port => portServe payload s
  | .laneSet => laneSetServe payload s
  | .laneGet => laneGetServe payload s
  | .profileSet => profileSetServe payload s
  | .profileGet => profileGetServe payload s
  | .lineSet => lineSetServe payload s
  | .lineGet => lineGetServe payload s
  | .zero => zeroServe payload s
  | .marks => marksRequest payload s
  | .set => setRequest payload s
  | .stand => standRequest payload s
  | .record => recordRequest payload s
  | .recallRequest => recallServe payload s
  | .reserve => reserveServe payload s
  | .rule => ruleServe payload s
  | .trace => traceServe payload s
  | .storeSave => storeSaveServe payload s
  | .restart => restartServe payload s

/-- The three common refusals, then the owner (R173). -/
def serveRequest (code : Byte) (payload : List Byte) (s : State) : Served :=
  match kindOfCode code with
  | none => refuse s .unknownKind
  | some k =>
    if payload.length ≠ k.length then refuse s .badLength
    else if s.store.state = .loading ∧ k ≠ .status then refuse s .busy
    else serveKind k payload s

/-- An address byte that reaches this station: its own address or 31 (R170). -/
def addressed (s : State) (a : Byte) : Bool := a = 31#8 || s.host.address = some a.toNat

/-- The end of the 2 ms, 20 ticks, within which a reply to a request that ends now is to begin (R178, entry 20). -/
def replyLimit (now : Time) : Time := tadd now 20

/-- The reply transmit state when a request that ends now has been served: its own reply waits, or, for a broadcast, a reply still waiting
is abandoned (R174, R176, R178). -/
def txAfter (now : Time) (a tag code : Byte) (r : Served) (tx : TxState) : TxState :=
  if a = 31#8 then match tx with | .waiting _ _ => .idle | .idle => .idle | .sending r => .sending r
  else .waiting { tag := tag, kind := code, status := r.status, payload := r.payload } (replyLimit now)

/-- A RESTART has been accepted. -/
def isRestart (code : Byte) (r : Served) : Bool := code = Kind.restart.code && r.status = .ok

/-- The receive state set. -/
def setRx (x : RxState) (s : State) : State := { s with host := { s.host with rx := x } }

/-- The end of a sound request for this station (R173 to R178, R196). The reset of an earlier RESTART follows when its reply is abandoned
by this request, and that of a broadcast RESTART follows at once. -/
def requestTaken (a tag code : Byte) (payload : List Byte) (s : State) : State :=
  let r := serveRequest code payload (setRx .hunt s)
  let t := { r.state with host := { r.state.host with
    tx := txAfter s.clock a tag code r s.host.tx, restartPending := isRestart code r && a ≠ 31#8 } }
  if s.host.restartPending = true ∨ (isRestart code r = true ∧ a = 31#8) then doReset t else t

/-! ### Receiving bytes (R167, R169, R170, R171) -/

/-- A frame abandoned for a parity or framing error. -/
def parityAbandon (s : State) : State :=
  { s with host := { s.host with rx := .hunt, parityCount := satInc 65535 s.host.parityCount } }

/-- A frame abandoned for its length, or dropped for its CRC. -/
def crcAbandon (s : State) : State := { s with host := { s.host with rx := .hunt, crcCount := satInc 65535 s.host.crcCount } }

/-- The number of bytes that a frame in RECEIVE has from the address to the last CRC byte, once its length byte is known. -/
def frameEnd (frame : List Byte) : Nat := 6 + (frame.getD 3 0#8).toNat

/-- A complete frame: taken when it is sound, else dropped (R168, R170). -/
def frameEnded (frame : List Byte) (s : State) : State :=
  let n := frameEnd frame - 2
  if frame.drop n = crcBytes (crc16 (frame.take n)) then
    requestTaken (frame.getD 0 0#8) (frame.getD 1 0#8) (frame.getD 2 0#8) ((frame.take n).drop 4) s
  else crcAbandon s

/-- A byte placed in a frame that already holds its address byte. -/
def receivePlace (frame : List Byte) (s : State) : State :=
  if frame.length = 4 ∧ 200 < (frame.getD 3 0#8).toNat then crcAbandon s
  else if 4 < frame.length ∧ frame.length = frameEnd frame then frameEnded frame s
  else setRx (.receive frame) s

/-- A byte taken in RECEIVE (R170). -/
def receiveByte (frame : List Byte) (b : RxByte) (s : State) : State :=
  if hostError b = true then parityAbandon s
  else
    match frame with
    | [] => if addressed s b.data = true then setRx (.receive [b.data]) s else setRx (.muteHeader 3) s
    | _ :: _ => receivePlace (frame ++ [b.data]) s

/-- A byte taken in MUTE while the tag, the kind or the length byte is to come; `left` counts them (R171). -/
def muteHeaderByte (left : Nat) (b : RxByte) (s : State) : State :=
  if left ≤ 1 then (if hostError b = true then setRx .hunt s else setRx (.muteBody (b.data.toNat + 2)) s)
  else setRx (.muteHeader (left - 1)) s

/-- A byte taken in MUTE after the length byte. -/
def muteBodyByte (left : Nat) (s : State) : State := if left ≤ 1 then setRx .hunt s else setRx (.muteBody (left - 1)) s

/-- The receiver is disabled for a byte: DE is asserted now, or was when the byte's start bit fell (R167; entry 25). -/
def notTaken (b : HostByte) (s : State) : Bool := b.underDe || deAsserted s

/-- A byte that the receiver takes, by its receive state. -/
def takeHostByte (b : HostByte) (s : State) : State :=
  match s.host.rx with
  | .hunt => if b.data = 0xC3#8 ∧ hostError b.toRxByte = false then setRx (.receive []) s else s
  | .receive frame => receiveByte frame b.toRxByte s
  | .muteHeader left => muteHeaderByte left b.toRxByte s
  | .muteBody left => muteBodyByte left s

/-- A byte on the host line: taken at the end of its stop bit, unless the receiver is disabled for it (R167). -/
def hostByte (b : HostByte) (s : State) : State := if notTaken b s = true then s else takeHostByte b s

/-- Bytes on the host line, in order. -/
def hostBytes (bytes : List HostByte) (s : State) : State := bytes.foldl (fun t b => hostByte b t) s

/-- The quiet time passes 3 byte times: a frame in RECEIVE is abandoned and counted, a mute ends (R170, R171). -/
def quietPassed (s : State) : State :=
  match s.host.rx with
  | .hunt => s
  | .receive _ => { s with host := { s.host with rx := .hunt, timeoutCount := satInc 65535 s.host.timeoutCount } }
  | .muteHeader _ | .muteBody _ => setRx .hunt s

/-- The receiver stands ready for a frame: in HUNT with DE released. -/
def readyToReceive (s : State) : Bool := s.host.rx = .hunt && !deAsserted s

/-- A sound request frame of a kind arrives. A receiver that is ready takes the request when the address reaches this station; in every
other case the frame's bytes meet the receiver as it stands. -/
def requestArrives (code : Byte) (r : Request) (s : State) : State :=
  if readyToReceive s = true ∧ addressed s r.address = true ∧ r.payload.length ≤ 200 then
    requestTaken r.address r.tag code r.payload s
  else hostBytes ((requestBytes code r).map hostByteOf) s

/-! ### Replies (R177, R178) -/

/-- REPLY_START: a waiting reply begins to be sent, the receiver being in HUNT (R177). -/
def replyStartStep (s : State) : State :=
  match s.host.tx with
  | .waiting r _ => if s.host.rx = .hunt then { s with host := { s.host with tx := .sending r } } else s
  | _ => s

/-- The reply transmit state becomes IDLE, and the reset of an accepted RESTART follows (R177, R178, R196). -/
def replyOver (s : State) : State :=
  let t := { s with host := { s.host with tx := .idle } }
  if s.host.restartPending then doReset t else t

/-- REPLY_SENT: DE is released (R177). -/
def replySentStep (s : State) : State :=
  match s.host.tx with
  | .sending _ => replyOver s
  | _ => s

/-- REPLY_ABANDONED_2MS: a reply still waiting when its 2 ms have passed is abandoned (R178). -/
def replyAbandonedStep (s : State) : State :=
  match s.host.tx with
  | .waiting _ limit => if limit = s.clock then replyOver s else s
  | _ => s

/-- The bytes of the reply being sent (section 12.1). -/
def sentReply (s : State) : List Byte :=
  match s.host.tx, s.host.address with
  | .sending r, some own => replyBytes own r
  | _, _ => []

/-! ### The commands -/

/-- REQUEST_FRAME_DROPPED. -/
def execRequestFrameDropped (bytes : List HostByte) (s : State) : Host.Outcome State Fault Refusal := live (hostBytes bytes) s

/-- FRAME_TIMEOUT. -/
def execFrameTimeout (bytes : List HostByte) (s : State) : Host.Outcome State Fault Refusal :=
  live (fun t => quietPassed (hostBytes bytes t)) s

/-- MUTED_FRAME. -/
def execMutedFrame (bytes : List HostByte) (quiet : Bool) (s : State) : Host.Outcome State Fault Refusal :=
  live (fun t => if quiet then quietPassed (hostBytes bytes t) else hostBytes bytes t) s

/-- REPLY_START. -/
def execReplyStart (s : State) : Host.Outcome State Fault Refusal := live replyStartStep s

/-- REPLY_SENT. -/
def execReplySent (s : State) : Host.Outcome State Fault Refusal := live replySentStep s

/-- REPLY_ABANDONED_2MS. -/
def execReplyAbandoned2ms (s : State) : Host.Outcome State Fault Refusal := live replyAbandonedStep s

end Sys2Proof.Machine
end

