-- ==== Sys2Proof/Machine/PistolInput.lean ====
section
/-! DEFINITION. The pistol input unit (section 1.2). -/

namespace Sys2Proof.Machine

/-- The sample of a tick (R4). A sample that causes no event is routine: it becomes the previous level, and in HELD moves the quiet run
(R8). One that causes an edge, a shot or a glitch waits for that event (entry 5). -/
def Pistol.take (now : Time) (active : Bool) (x : Pistol) : Pistol :=
  match x.unit with
  | .quiet =>
    if active = true ∧ x.prev = some false then { x with sample := some true } else { x with prev := some active, sample := none }
  | .qualifying _ qualifyEnd =>
    if active = true ∧ now ≠ qualifyEnd then { x with prev := some true, sample := none } else { x with sample := some active }
  | .held => { x with prev := some active, sample := none, quietRun := if active then 0 else satInc 500 x.quietRun }

/-- PISTOL_EDGE: in QUIET, an active sample after an inactive one starts qualification (R5). -/
def pistolEdgeStep (s : State) : State :=
  if s.pistol.unit = .quiet ∧ s.pistol.prev = some false ∧ s.pistol.sample = some true then
    qualificationStarted
      { s with pistol := { s.pistol with unit := .qualifying s.clock (tadd s.clock s.line.qualify), prev := some true, sample := none } }
  else s

/-- SHOT_ACCEPTED: an active sample at the qualify end (R6). -/
def shotAcceptedStep (s : State) : State :=
  match s.pistol.unit with
  | .qualifying te qualifyEnd =>
    if qualifyEnd = s.clock ∧ s.pistol.sample = some true then
      shotNotice te { s with pistol := { s.pistol with unit := .held, prev := some true, sample := none, quietRun := 0 } }
    else s
  | _ => s

/-- GLITCH: an inactive sample during qualification (R7). -/
def glitchStep (s : State) : State :=
  match s.pistol.unit with
  | .qualifying _ _ =>
    if s.pistol.sample = some false then
      let count := satInc 65535 s.pistol.glitchCount
      let t := glitchNotice { s with pistol := { s.pistol with unit := .quiet, prev := some false, sample := none, glitchCount := count } }
      place .glitch none (openId t) (BitVec.ofNat 32 count) t
    else s
  | _ => s

/-- PISTOL_HOLD_END: the quiet run has reached 500 (R8). -/
def pistolHoldEndStep (s : State) : State :=
  if s.pistol.unit = .held ∧ s.pistol.quietRun = 500 then { s with pistol := { s.pistol with unit := .quiet, quietRun := 0 } } else s

/-- PISTOL_EDGE. -/
def execPistolEdge (s : State) : Host.Outcome State Fault Refusal := live pistolEdgeStep s

/-- SHOT_ACCEPTED. -/
def execShotAccepted (s : State) : Host.Outcome State Fault Refusal := live shotAcceptedStep s

/-- GLITCH. -/
def execGlitch (s : State) : Host.Outcome State Fault Refusal := live glitchStep s

/-- PISTOL_HOLD_END. -/
def execPistolHoldEnd (s : State) : Host.Outcome State Fault Refusal := live pistolHoldEndStep s

end Sys2Proof.Machine
end

