-- ==== Sys2Proof/Machine/Clock.lean ====
section
/-! DEFINITION. The line clock and the tick (R1, R4, R26), the start-up (R196, R197) and the reset pin. -/

namespace Sys2Proof.Machine

/-! ### Reset pin (R196) -/

/-- The reset pin is released with the straps at these levels: every block takes its reset state. -/
def resetStep (straps : Straps) (s : State) : State := State.afterReset { s.pins with straps := straps } false s.pending

/-- The reset pin goes active: the part is held in its reset state. -/
def resetAssertStep (s : State) : State := State.afterReset s.pins true s.pending

/-! ### The first tick after a reset (R197) -/

/-- The first tick: the clock advances, the pistol takes its first sample, each port reads its presence line, the load begins. -/
def firstTick (pins : Pins) (s : State) : State :=
  beginLoad (forPorts allPorts (firstPresence pins)
    { s with clock := s.clock + 1#32, pins := pins, started := true,
             pistol := { s.pistol with prev := some pins.pistol, sample := none } })

/-- START_UP_FIRST_TICK: only the first tick after a reset is one. -/
def startUpFirstTickStep (pins : Pins) (s : State) : State := if s.started then s else firstTick pins s

/-! ### A tick (R1, R4, R26) -/

/-- The events due at the present tick that no command has taken, in this order (DESIGN CHOICE, entry 4). The last of them, a reply
abandoned at its 2 ms, may bring the reset of a RESTART (R178, R196). -/
def takeDue (s : State) : State :=
  let t := pistolHoldEndStep (glitchStep (shotAcceptedStep (pistolEdgeStep s)))
  let t := forPorts allPorts (fun p t => presenceInactiveStep p (presenceActiveStep p t)) t
  let t := forPorts allPorts breakEndStep t
  let t := forPorts allPorts silenceEndStep t
  let t := forPorts allPorts helloWaitEndStep t
  let t := recallPulseEndStep t
  let t := forLanes allLanes zeroTimeoutStep t
  let t := recallShotEndStep (windowCloseStep (settleEndStep t))
  let t := forLanes allLanes heldAgeEndStep t
  replyAbandonedStep (saveDeadlineStep (loadDeadlineStep t))

/-- The ring entries named have changed in their stored bits (R67), in a frozen ring as in any other (DESIGN CHOICE, entry 6). -/
def applyUpsets (upsets : List (LaneIx × Nat)) (s : State) : State :=
  upsets.foldl (fun t u => t.setRing u.1 ((t.ring u.1).upset u.2)) s

/-- The routine work of a tick: the clock advances, the pistol unit samples, each port reads its presence line, and a new tick's
transaction and pulse may be made. -/
def advance (pins : Pins) (s : State) : State :=
  let now := s.clock + 1#32
  { s with clock := now, pins := pins, pistol := s.pistol.take now pins.pistol,
           ports := Vector.ofFn fun p => presenceReading (pins.presence.getLsbD p.val) s.ports[p],
           events := { s.events with pulseThisTick := false },
           store := { s.store with busUsed := false } }

/-- The next tick comes: the first one after a reset, or any other. -/
def nextTick (pins : Pins) (upsets : List (LaneIx × Nat)) (s : State) : State :=
  if s.started then applyUpsets upsets (advance pins s) else firstTick pins s

/-- TICK: what is left of the present tick is taken, then the next tick comes. -/
def tickStep (pins : Pins) (upsets : List (LaneIx × Nat)) (s : State) : State :=
  nextTick pins upsets (if s.started then takeDue s else s)

/-! ### The commands -/

/-- RESET. -/
def execReset (straps : Straps) (s : State) : Host.Outcome State Fault Refusal := .next (resetStep straps s)

/-- RESET_PIN_ASSERTED. -/
def execResetPinAsserted (s : State) : Host.Outcome State Fault Refusal := .next (resetAssertStep s)

/-- START_UP_FIRST_TICK. -/
def execStartUpFirstTick (pins : Pins) (s : State) : Host.Outcome State Fault Refusal := live (startUpFirstTickStep pins) s

/-- TICK. -/
def execTick (pins : Pins) (upsets : List (LaneIx × Nat)) (s : State) : Host.Outcome State Fault Refusal :=
  live (tickStep pins upsets) s

end Sys2Proof.Machine
end

