-- ==== Sys2Proof/Machine/Requests.lean ====
section
/-! DEFINITION. The request commands. The row of a request command is a sound frame of that kind; the frame reaches its owner through
`requestArrives` and `serveKind`, the same for every kind (R173). -/

namespace Sys2Proof.Machine

/-- STATUS (R179). -/
def execStatus (r : Request) (s : State) : Host.Outcome State Fault Refusal := live (requestArrives Kind.status.code r) s

/-- EVENTS (R183). -/
def execEvents (r : Request) (s : State) : Host.Outcome State Fault Refusal := live (requestArrives Kind.events.code r) s

/-- PORT (R39). -/
def execPort (r : Request) (s : State) : Host.Outcome State Fault Refusal := live (requestArrives Kind.port.code r) s

/-- LANE_SET (R46 to R49). -/
def execLaneSet (r : Request) (s : State) : Host.Outcome State Fault Refusal := live (requestArrives Kind.laneSet.code r) s

/-- LANE_GET (R54). -/
def execLaneGet (r : Request) (s : State) : Host.Outcome State Fault Refusal := live (requestArrives Kind.laneGet.code r) s

/-- PROFILE_SET (R50). -/
def execProfileSet (r : Request) (s : State) : Host.Outcome State Fault Refusal := live (requestArrives Kind.profileSet.code r) s

/-- PROFILE_GET (R54). -/
def execProfileGet (r : Request) (s : State) : Host.Outcome State Fault Refusal := live (requestArrives Kind.profileGet.code r) s

/-- LINE_SET (R51 to R53). -/
def execLineSet (r : Request) (s : State) : Host.Outcome State Fault Refusal := live (requestArrives Kind.lineSet.code r) s

/-- LINE_GET (R54). -/
def execLineGet (r : Request) (s : State) : Host.Outcome State Fault Refusal := live (requestArrives Kind.lineGet.code r) s

/-- ZERO (R72, R73). -/
def execZero (r : Request) (s : State) : Host.Outcome State Fault Refusal := live (requestArrives Kind.zero.code r) s

/-- MARKS (R87, R88). -/
def execMarks (r : Request) (s : State) : Host.Outcome State Fault Refusal := live (requestArrives Kind.marks.code r) s

/-- SET (R90). -/
def execSet (r : Request) (s : State) : Host.Outcome State Fault Refusal := live (requestArrives Kind.set.code r) s

/-- STAND (R96). -/
def execStand (r : Request) (s : State) : Host.Outcome State Fault Refusal := live (requestArrives Kind.stand.code r) s

/-- RECORD (R100). -/
def execRecord (r : Request) (s : State) : Host.Outcome State Fault Refusal := live (requestArrives Kind.record.code r) s

/-- RECALL (R148). -/
def execRecallRequest (r : Request) (s : State) : Host.Outcome State Fault Refusal := live (requestArrives Kind.recallRequest.code r) s

/-- RESERVE (R153). -/
def execReserve (r : Request) (s : State) : Host.Outcome State Fault Refusal := live (requestArrives Kind.reserve.code r) s

/-- RULE (R155, R156). -/
def execRule (r : Request) (s : State) : Host.Outcome State Fault Refusal := live (requestArrives Kind.rule.code r) s

/-- TRACE (R159 to R165). -/
def execTrace (r : Request) (s : State) : Host.Outcome State Fault Refusal := live (requestArrives Kind.trace.code r) s

/-- STORE_SAVE (R194). -/
def execStoreSave (r : Request) (s : State) : Host.Outcome State Fault Refusal := live (requestArrives Kind.storeSave.code r) s

/-- RESTART (R196). -/
def execRestart (r : Request) (s : State) : Host.Outcome State Fault Refusal := live (requestArrives Kind.restart.code r) s

/-- UNKNOWN_KIND_REQUEST (R173). -/
def execUnknownKindRequest (kind : Byte) (r : Request) (s : State) : Host.Outcome State Fault Refusal :=
  live (requestArrives kind r) s

end Sys2Proof.Machine
end

