-- ==== Sys2Proof/Machine/Dispatch.lean ====
section
/-! DEFINITION. One arm per command: the meaning of its row. -/

namespace Sys2Proof.Machine

/-- The effect of a command on everything but the queue. -/
def exec (i : Instr) (s : State) : Host.Outcome State Fault Refusal :=
  match i with
  | .reset straps => Sys2Proof.Machine.execReset straps s
  | .startUpFirstTick pins => Sys2Proof.Machine.execStartUpFirstTick pins s
  | .status r => Sys2Proof.Machine.execStatus r s
  | .events r => Sys2Proof.Machine.execEvents r s
  | .port r => Sys2Proof.Machine.execPort r s
  | .laneSet r => Sys2Proof.Machine.execLaneSet r s
  | .laneGet r => Sys2Proof.Machine.execLaneGet r s
  | .profileSet r => Sys2Proof.Machine.execProfileSet r s
  | .profileGet r => Sys2Proof.Machine.execProfileGet r s
  | .lineSet r => Sys2Proof.Machine.execLineSet r s
  | .lineGet r => Sys2Proof.Machine.execLineGet r s
  | .zero r => Sys2Proof.Machine.execZero r s
  | .marks r => Sys2Proof.Machine.execMarks r s
  | .set r => Sys2Proof.Machine.execSet r s
  | .stand r => Sys2Proof.Machine.execStand r s
  | .record r => Sys2Proof.Machine.execRecord r s
  | .recallRequest r => Sys2Proof.Machine.execRecallRequest r s
  | .reserve r => Sys2Proof.Machine.execReserve r s
  | .rule r => Sys2Proof.Machine.execRule r s
  | .trace r => Sys2Proof.Machine.execTrace r s
  | .storeSave r => Sys2Proof.Machine.execStoreSave r s
  | .restart r => Sys2Proof.Machine.execRestart r s
  | .requestFrameDropped bytes => Sys2Proof.Machine.execRequestFrameDropped bytes s
  | .frameTimeout bytes => Sys2Proof.Machine.execFrameTimeout bytes s
  | .mutedFrame bytes quiet => Sys2Proof.Machine.execMutedFrame bytes quiet s
  | .replyStart => Sys2Proof.Machine.execReplyStart s
  | .replySent => Sys2Proof.Machine.execReplySent s
  | .replyAbandoned2ms => Sys2Proof.Machine.execReplyAbandoned2ms s
  | .pistolEdge => Sys2Proof.Machine.execPistolEdge s
  | .shotAccepted => Sys2Proof.Machine.execShotAccepted s
  | .glitch => Sys2Proof.Machine.execGlitch s
  | .pistolHoldEnd => Sys2Proof.Machine.execPistolHoldEnd s
  | .recallPulseEnd => Sys2Proof.Machine.execRecallPulseEnd s
  | .sampleFrame p rx => Sys2Proof.Machine.execSampleFrame p rx s
  | .hello p rx => Sys2Proof.Machine.execHello p rx s
  | .alive p rx => Sys2Proof.Machine.execAlive p rx s
  | .discardedStatusFrame p rx => Sys2Proof.Machine.execDiscardedStatusFrame p rx s
  | .badFrame p rx => Sys2Proof.Machine.execBadFrame p rx s
  | .silenceEndExpiry p => Sys2Proof.Machine.execSilenceEndExpiry p s
  | .presenceActive p => Sys2Proof.Machine.execPresenceActive p s
  | .presenceInactive p => Sys2Proof.Machine.execPresenceInactive p s
  | .helloWaitEndExpiry p => Sys2Proof.Machine.execHelloWaitEndExpiry p s
  | .breakEnd p => Sys2Proof.Machine.execBreakEnd p s
  | .outboundFrameSent p => Sys2Proof.Machine.execOutboundFrameSent p s
  | .zeroTimeout l => Sys2Proof.Machine.execZeroTimeout l s
  | .settleEndExpiry => Sys2Proof.Machine.execSettleEndExpiry s
  | .windowCloseExpiry => Sys2Proof.Machine.execWindowCloseExpiry s
  | .recallShotEndExpiry => Sys2Proof.Machine.execRecallShotEndExpiry s
  | .heldAgeEndExpiry l => Sys2Proof.Machine.execHeldAgeEndExpiry l s
  | .attnPulseStart => Sys2Proof.Machine.execAttnPulseStart s
  | .attnPulseEnd => Sys2Proof.Machine.execAttnPulseEnd s
  | .loadAddressAcknowledged => Sys2Proof.Machine.execLoadAddressAcknowledged s
  | .loadAcknowledgeDeadline => Sys2Proof.Machine.execLoadAcknowledgeDeadline s
  | .loadRead taken => Sys2Proof.Machine.execLoadRead taken s
  | .saveWriteTaken => Sys2Proof.Machine.execSaveWriteTaken s
  | .saveWriteStored => Sys2Proof.Machine.execSaveWriteStored s
  | .saveAcknowledgeDeadline => Sys2Proof.Machine.execSaveAcknowledgeDeadline s
  | .tick pins upsets => Sys2Proof.Machine.execTick pins upsets s
  | .unknownKindRequest kind r => Sys2Proof.Machine.execUnknownKindRequest kind r s
  | .resetPinAsserted => Sys2Proof.Machine.execResetPinAsserted s

end Sys2Proof.Machine
end

