-- ==== Sys2Proof/Safety.lean ====
section
/-! DEFINITION. The terms that statements about the SL10 use: when a request is taken, when nothing is due at a tick, and the
invariants that every command keeps. -/

namespace Sys2Proof.Machine

/-! ### Requests -/

/-- The kind code and the request of a request command. -/
def requestOf : Instr → Option (Byte × Request)
  | .status r => some (Kind.status.code, r)
  | .events r => some (Kind.events.code, r)
  | .port r => some (Kind.port.code, r)
  | .laneSet r => some (Kind.laneSet.code, r)
  | .laneGet r => some (Kind.laneGet.code, r)
  | .profileSet r => some (Kind.profileSet.code, r)
  | .profileGet r => some (Kind.profileGet.code, r)
  | .lineSet r => some (Kind.lineSet.code, r)
  | .lineGet r => some (Kind.lineGet.code, r)
  | .zero r => some (Kind.zero.code, r)
  | .marks r => some (Kind.marks.code, r)
  | .set r => some (Kind.set.code, r)
  | .stand r => some (Kind.stand.code, r)
  | .record r => some (Kind.record.code, r)
  | .recallRequest r => some (Kind.recallRequest.code, r)
  | .reserve r => some (Kind.reserve.code, r)
  | .rule r => some (Kind.rule.code, r)
  | .trace r => some (Kind.trace.code, r)
  | .storeSave r => some (Kind.storeSave.code, r)
  | .restart r => some (Kind.restart.code, r)
  | .unknownKindRequest kind r => some (kind, r)
  | _ => none

/-- A running part whose receiver is ready takes a request to its own address, no RESTART being under way (R170, R173, R176). -/
def Takes (s : State) (r : Request) : Prop :=
  s.resetHeld = false ∧ s.host.rx = .hunt ∧ deAsserted s = false ∧ s.host.address = some r.address.toNat ∧ r.address ≠ 31#8
    ∧ s.host.restartPending = false

/-- The part takes the request, and the start-up load has ended (R173). -/
def Serves (s : State) (r : Request) : Prop := Takes s r ∧ s.store.state ≠ .loading

/-- The host line interface with this reply waiting to be sent, to a request that ends now (R176, R178). -/
def answered (s : State) (r : Request) (code : Byte) (st : Status) (payload : List Byte) : HostLine :=
  { s.host with tx := .waiting { tag := r.tag, kind := code, status := st, payload := payload } (replyLimit s.clock) }

/-! ### Reset -/

/-- The values that R196 and the chapters it names give every block at a reset, the tables at their factory defaults. The link, the presence
and the frame being sent of a port before the first tick (entry 3), the pistol's waiting sample (entry 5), and the marks of a pulse and of a
transaction in this tick are the model's. -/
structure ResetValues (t : State) : Prop where
  clock      : t.clock = 0#32
  pistol     : t.pistol = { unit := .quiet, prev := none, sample := none, quietRun := 0, glitchCount := 0 }
  driver     : t.driver = .idle ∧ recallActive t = false
  ports      : ∀ p, t.port p =
                 { link := .absent, presence := false, presenceRun := 0, capability := none, mismatched := false, lamp := false,
                   expected := Vector.replicate 4 none, consecutiveBad := 0, lastValid := none, silenceEnd := none,
                   helloWaitEnd := none, helloPending := false, streamingSince := none, brk := .clear, parityCount := 0,
                   checkCount := 0, jumpCount := 0, queue := [], sending := none,
                   inbound := { bytes := [], error := false, early := false } }
  laneMap    : ∀ l, (∃ p : PortIx, (t.lane l).port = some p ∧ p.val + 1 = laneNumber l) ∧ (t.lane l).sumSet = 0b0011#4
                 ∧ (t.lane l).commitSet = 0b0010#4 ∧ (∀ c : Chan, (t.lane l).gains[c] = 1024 ∧ (t.lane l).zeros[c] = 0)
                 ∧ (t.lane l).latency = 0 ∧ (t.lane l).profile = 0 ∧ (t.lane l).lampEnable = true
  profiles   : ∀ n, t.profile n = { tAbs := 250, k := 4, p := 3, unsteady := true }
  line       : t.line = { reactionLimit := 1000, window := 3000, settle := 2500, qualify := 10, pulseLength := 2000,
                          autoRecall := true, attnMode := .level, rate := .hz2000 }
  assemblers : ∀ l, t.assembler l = { raw := Vector.replicate 4 none, fresh := Vector.replicate 4 false,
                                      overload := Vector.replicate 4 false, gapPending := false }
  rings      : ∀ l, t.ring l = { slots := [], writeIndex := 0, count := 0, frozenBy := none }
  zeros      : ∀ l, t.zero l = none
  detectors  : ∀ l, t.detector l =
                 { state := .off, attempt := none, linkOut := false, hold := false, shotTime := none, n := 0, sum := 0, maximum := none,
                   minimum := none, quality := false, baseline := none, unsteadyRun := 0, unsteadyReported := false, persistence := 0,
                   first := none, runStale := false, runSat := false, held := none, heldAgeEnd := none, longHeld := false }
  seq        : t.seq = { history := [], nextId := 1, setTime := none, settleEnd := none, windowEnd := none, recallShotEnd := none,
                         earlyEdge := false }
  review     : t.reservation = none
  host       : t.host.rx = .hunt ∧ t.host.tx = .idle ∧ deAsserted t = false ∧ t.host.parityCount = 0 ∧ t.host.crcCount = 0
                 ∧ t.host.timeoutCount = 0 ∧ t.host.restartPending = false ∧ (addressFault t = true ↔ t.host.address = none)
  events     : t.events = { list := [], overflow := false, owed := 0, pulse := false, pulseThisTick := false } ∧ attnAsserted t = false
  store      : t.store = { state := .loading, markerOffset := none, job := .idle, deadline := none, busUsed := false }

/-! ### Ticks -/

/-- No event is due at the present tick: no sample, presence run or end time calls for one (R3, R4, R8, R26). -/
structure NothingDue (s : State) : Prop where
  sample     : s.pistol.sample = none
  hold       : s.pistol.unit = .held → s.pistol.quietRun ≠ 500
  presence   : ∀ p, (s.port p).presenceRun ≠ 20
  breaks     : ∀ p, (s.port p).brk ≠ .low s.clock
  silence    : ∀ p, (s.port p).silenceEnd ≠ some s.clock
  helloWait  : ∀ p, (s.port p).helloWaitEnd ≠ some s.clock
  pulse      : s.driver ≠ .pulsing s.clock
  zeros      : ∀ l z, s.zero l = some z → z.timeoutEnd ≠ s.clock
  settle     : s.seq.settleEnd ≠ some s.clock
  window     : s.seq.windowEnd ≠ some s.clock
  recallShot : s.seq.recallShotEnd ≠ some s.clock
  heldAge    : ∀ l, (s.detector l).heldAgeEnd ≠ some s.clock
  store      : s.store.deadline ≠ some s.clock
  reply      : ∀ rep, s.host.tx ≠ .waiting rep s.clock

/-- The commands of the events that a TICK takes when they are still due, in its order (entry 4). -/
def dueCommands : List Instr :=
  [.pistolEdge, .shotAccepted, .glitch, .pistolHoldEnd] ++ allPorts.flatMap (fun p => [.presenceActive p, .presenceInactive p])
    ++ allPorts.map .breakEnd ++ allPorts.map .silenceEndExpiry ++ allPorts.map .helloWaitEndExpiry ++ [.recallPulseEnd]
    ++ allLanes.map .zeroTimeout ++ [.settleEndExpiry, .windowCloseExpiry, .recallShotEndExpiry] ++ allLanes.map .heldAgeEndExpiry
    ++ [.loadAcknowledgeDeadline, .saveAcknowledgeDeadline, .replyAbandoned2ms]

/-- These commands, one after another, lead from one state to another. -/
def Runs : List Instr → State → State → Prop
  | [], s, t => t = s
  | c :: cs, s, t => ∃ u, exec c s = .next u ∧ Runs cs u t

/-- What was due at the tick of `s` is no longer due in `t` (R4 to R8, R14, R26, R28, R31, R32, R76, R81, R91, R97, R124, R178, R191, R195). -/
structure DueTaken (s t : State) : Prop where
  edge       : s.pistol.unit = .quiet → s.pistol.prev = some false → s.pistol.sample = some true →
                 t.pistol.unit = .qualifying s.clock (tadd s.clock s.line.qualify)
  shot       : ∀ te, s.pistol.unit = .qualifying te s.clock → s.pistol.sample = some true → t.pistol.unit = .held
  glitch     : ∀ te qe, s.pistol.unit = .qualifying te qe → s.pistol.sample = some false → t.pistol.unit = .quiet
  hold       : s.pistol.unit = .held → s.pistol.quietRun = 500 → t.pistol.unit = .quiet
  presence   : ∀ p, (s.port p).presenceRun = 20 → (t.port p).presence = !(s.port p).presence
  breaks     : ∀ p, (t.port p).brk ≠ .low s.clock
  silence    : ∀ p, (t.port p).link = .streaming → (t.port p).silenceEnd ≠ some s.clock
  helloWait  : ∀ p, (t.port p).link = .linking → (t.port p).helloWaitEnd ≠ some s.clock
  pulse      : t.driver ≠ .pulsing s.clock
  zeros      : ∀ l z, t.zero l = some z → z.timeoutEnd ≠ s.clock
  settle     : t.seq.settleEnd ≠ some s.clock
  window     : t.seq.windowEnd = some s.clock → lineState t ≠ .running
  recallShot : t.seq.recallShotEnd ≠ some s.clock
  heldAge    : ∀ l, (t.detector l).heldAgeEnd = some s.clock → (t.detector l).longHeld = true
  load       : t.store.job = .addressing → t.store.deadline ≠ some s.clock
  save       : ∀ run, t.store.job = .saving run → t.store.deadline ≠ some s.clock
  reply      : ∀ rep, t.host.tx ≠ .waiting rep s.clock

/-! ### Invariants -/

/-- The event queue holds at most 32 events and owes at most 255 pulses, none in LEVEL mode (R180, R181, R185). -/
def QueueInv (s : State) : Prop :=
  s.events.list.length ≤ 32 ∧ s.events.owed ≤ 255 ∧ (s.line.attnMode = .level → s.events.owed = 0)

/-- A ring holds as many entries as slots have been written, its write index follows the newest, and every force is within its limits
(R62, R65, R66). -/
structure Ring.Ok (r : Ring) : Prop where
  count  : r.count = r.slots.length
  size   : r.count ≤ 2048
  index  : r.writeIndex < 2048
  filled : r.count < 2048 → r.writeIndex = r.count
  force  : ∀ w ∈ r.slots, -3000 ≤ w.entry.force ∧ w.entry.force ≤ 30000

/-- Every lane ring is well formed. -/
def RingsInv (s : State) : Prop := ∀ l, (s.ring l).Ok

/-- The ids of a history run on from each other, the next id to be given after the newest (R83). -/
def ChainedTo (next : Nat) : List Nat → Prop
  | [] => True
  | [a] => nextAttemptId a = next
  | a :: b :: rest => nextAttemptId a = b ∧ ChainedTo next (b :: rest)

/-- The attempt history: at most 8 records, their ids without gaps and within 1 to 65 535, each record's lanes ascending, and no record
but the newest open (R80, R82, R83, R85). -/
structure HistoryInv (s : State) : Prop where
  size   : s.seq.history.length ≤ 8
  ids    : ∀ r ∈ s.seq.history, 1 ≤ r.id ∧ r.id ≤ 65535
  next   : 1 ≤ s.seq.nextId ∧ s.seq.nextId ≤ 65535
  chain  : ChainedTo s.seq.nextId (s.seq.history.map (·.id))
  lanes  : ∀ r ∈ s.seq.history, r.lanes.Pairwise (· < ·)
  closed : ∀ r ∈ s.seq.history.dropLast, r.isOpen = false

/-- A record's false-start list holds each lane whose verdict is FALSE exactly once and no other lane (R136). -/
def FalseListInv (s : State) : Prop :=
  ∀ r ∈ s.seq.history, r.falseList.Nodup ∧ ∀ l, l ∈ r.falseList ↔ ∃ x ∈ r.results, x.lane = l ∧ x.verdict = .falseStart

/-- A lane map entry within the ranges of R41. -/
def LaneEntry.Ok (e : LaneEntry) : Prop :=
  e.sumSet ≠ 0#4 ∧ e.commitSet ≠ 0#4 ∧ (∀ c : Chan, 1 ≤ e.gains[c] ∧ e.gains[c] ≤ 16383)
    ∧ (∀ c : Chan, -32768 ≤ e.zeros[c] ∧ e.zeros[c] ≤ 32767) ∧ e.latency ≤ 255

/-- A sensing profile within the ranges of R43. -/
def Profile.Ok (p : Profile) : Prop := (50 ≤ p.tAbs ∧ p.tAbs ≤ 2000) ∧ (1 ≤ p.k ∧ p.k ≤ 8) ∧ (1 ≤ p.p ∧ p.p ≤ 8)

/-- Line settings within the ranges of R44. -/
def LineSettings.Ok (c : LineSettings) : Prop :=
  c.reactionLimit ≤ 2000 ∧ (1000 ≤ c.window ∧ c.window ≤ 5000) ∧ c.settle ≤ 20000 ∧ (1 ≤ c.qualify ∧ c.qualify ≤ 100)
    ∧ (100 ≤ c.pulseLength ∧ c.pulseLength ≤ 10000)

/-- A ZERO in flight has counted fewer than 64 commits, and its sums are of so many raw values (R74). -/
def ZeroRun.Ok (z : ZeroRun) : Prop :=
  z.count < 64 ∧ ∀ c : Chan, -32768 * (z.count : Int) ≤ z.sums[c] ∧ z.sums[c] ≤ 32767 * (z.count : Int)

/-- The configuration tables hold values within their ranges, and no port is named by two lanes (R41, R43, R44). -/
structure TablesInv (s : State) : Prop where
  lanes    : ∀ l, (s.lane l).Ok
  profiles : ∀ n, (s.profile n).Ok
  line     : s.line.Ok
  distinct : ∀ l k p, (s.lane l).port = some p → (s.lane k).port = some p → l = k
  zeros    : ∀ l z, s.zero l = some z → z.Ok

/-- A station whose address is in fault has no reply waiting or being sent, and a frame in RECEIVE that has its address byte has one that
reaches this station (R170, R177). -/
def HostInv (s : State) : Prop :=
  (s.host.address = none → s.host.tx = .idle) ∧ (∀ a rest, s.host.rx = .receive (a :: rest) → addressed s a = true)

/-! ### The loss of a link -/

/-- What a port that was STREAMING in `s` leaves behind, in `t`, when it loses its link (R34, R27, R36, R40, R58, R77, R126): its LINK_LOST and
the ZERO_FAIL of its lane's ZERO, the lane's buffer cleared, the stream-ended notice taken by the lane's detector, a reservation of the record
that it changes lost (R152), and every other block as it was. -/
structure LinkLossLeaves (s : State) (p : PortIx) (t : State) : Prop where
  otherPorts  : ∀ q, q ≠ p → t.port q = s.port q
  events      : ∀ q, q = arrive s.line.attnMode
                    { kind := .linkLost, time := s.clock, lane := mappedLane s p, attempt := openId s, value := BitVec.ofNat 32 p.val } s.events →
                  ((∀ l, mappedLane s p = some l → s.zero l = none) → t.events = q)
                  ∧ ∀ l, mappedLane s p = some l → s.zero l ≠ none →
                    t.events = arrive s.line.attnMode
                      { kind := .zeroFail, time := s.clock, lane := some l, attempt := openId s, value := 2#32 } q
  otherLanes  : ∀ l, mappedLane s p ≠ some l → t.assembler l = s.assembler l ∧ t.zero l = s.zero l ∧ t.detector l = s.detector l
  unmapped    : mappedLane s p = none → t.seq = s.seq
  lane        : ∀ l, mappedLane s p = some l → t.zero l = none
                  ∧ t.assembler l = { raw := Vector.replicate 4 none, fresh := Vector.replicate 4 false,
                                      overload := Vector.replicate 4 false, gapPending := true }
  mismatched  : ∀ l, mappedLane s p = some l → (s.port p).mismatched = true → t.detector l = s.detector l ∧ t.seq = s.seq
  atWork      : ∀ l, mappedLane s p = some l → (s.port p).mismatched = false → (s.detector l).shotTime = none →
                  (s.detector l).state = .settling ∨ (s.detector l).state = .capture ∨ (s.detector l).state = .watching
                    ∨ (s.detector l).state = .crossing →
                  (t.detector l).state = .off ∧ (t.detector l).linkOut = true ∧ (t.detector l).hold = false
  waiting     : ∀ l, mappedLane s p = some l → (s.port p).mismatched = false →
                  ((s.detector l).state = .off ∧ (s.detector l).attempt ≠ none) ∨ ((s.detector l).state = .done ∧ (s.detector l).held ≠ none) →
                  t.detector l = { s.detector l with linkOut := true }
  idle        : ∀ l, mappedLane s p = some l → (s.port p).mismatched = false →
                  ((s.detector l).state = .off ∧ (s.detector l).attempt = none) ∨ ((s.detector l).state = .done ∧ (s.detector l).held = none) →
                  t.detector l = s.detector l ∧ t.seq = s.seq
  linkReport  : ∀ l, mappedLane s p = some l → (s.port p).mismatched = false →
                  ((s.detector l).shotTime = none ∧ ((s.detector l).state = .settling ∨ (s.detector l).state = .capture
                      ∨ (s.detector l).state = .watching ∨ (s.detector l).state = .crossing))
                    ∨ ((s.detector l).state = .off ∧ (s.detector l).attempt ≠ none ∧ (s.detector l).linkOut = false)
                    ∨ ((s.detector l).state = .done ∧ (s.detector l).held ≠ none) →
                  ∀ rec x, HistoryInv s → openRecord s = some rec → rec.result l = some x →
                    ∃ rec', recordOf t rec.id = some rec' ∧ rec'.result l = some { x with flags := x.flags.union { link := true } }
  afterShot   : ∀ l, mappedLane s p = some l → (s.port p).mismatched = false → (s.detector l).shotTime ≠ none →
                  (s.detector l).state = .watching ∨ (s.detector l).state = .crossing →
                  (t.detector l).state = .done
                  ∧ ∀ rec x, HistoryInv s → openRecord s = some rec → rec.result l = some x → x.verdict = .pending →
                    ∃ rec', recordOf t rec.id = some rec'
                      ∧ rec'.result l = some { x with verdict := .unsure, flags := x.flags.union { link := true } }
  reservation : t.reservation = s.reservation ∨ (t.reservation = none ∧ s.reservation = some (openId s))
  frame       : t.rings = s.rings ∧ t.laneMap = s.laneMap ∧ t.profiles = s.profiles ∧ t.line = s.line ∧ t.driver = s.driver
                  ∧ t.host = s.host ∧ t.store = s.store ∧ t.pistol = s.pistol ∧ t.clock = s.clock ∧ t.pins = s.pins
                  ∧ t.resetHeld = s.resetHeld ∧ t.started = s.started ∧ t.pending = s.pending

end Sys2Proof.Machine
end

