-- ==== Sys2Proof/Certificates/Slice0/Obligations.lean ====
section
/-! DEFINITION. The statements about the SL10, for the provers. -/

open Sys2Proof Sys2Proof.Machine

/-! ### The queue, reset and ticks -/

/-- A step runs the command at the front of the queue with the rest of the queue in place; with no command waiting it changes nothing,
which is the model's choice (entry 7). -/
def Obligations.StepRunsFrontCommand : Prop :=
  (∀ (c : Instr) (rest : List Instr) (s : State), s.pending = c :: rest → step s = exec c { s with pending := rest })
  ∧ ∀ s : State, s.pending = [] → step s = .next s

/-- Every command completes, and none touches the queue of the commands that wait.
That a command whose event is not due completes with no effect, and that the queue is kept through a reset, is the model's choice (entries 4
and 14). -/
def Obligations.CommandsComplete : Prop :=
  ∀ (c : Instr) (s : State), ∃ t, exec c s = .next t ∧ t.pending = s.pending

/-- RESET and RESET_PIN_ASSERTED: every block takes the values its own chapter gives, each field of its state (R196, R1, R11, R16, R17, R56,
R65, R79, R81, R83, R102, R151, R180, R188; R41, R43 and R44 for the tables), RESET reads the straps (R166: the station address is the number
of the address straps when it lies from 1 to 30 and the six straps hold an odd number of ones), and while the reset pin is held active every
other command leaves the part as it is.
That a port is ABSENT with its presence inactive and sends nothing until the first tick is the model's choice (entry 3); that a held part takes
no other command, and that RESET reads the straps it carries, is its reading (entry 14). -/
def Obligations.ResetPinAndStraps : Prop :=
  (∀ (straps : Straps) (s : State), ∃ t, exec (.reset straps) s = .next t ∧ ResetValues t ∧ t.resetHeld = false
      ∧ t.started = false ∧ t.pending = s.pending
      ∧ t.host.rate = (match straps.rate.toNat with | 0 => .b38400 | 1 => .b115200 | 2 => .b460800 | _ => .b921600)
      ∧ ∀ n, t.host.address = some n ↔
          (straps.address.toNat = n ∧ 1 ≤ n ∧ n ≤ 30
            ∧ ((List.range 5).countP (fun i => straps.address.getLsbD i) + if straps.parity then 1 else 0) % 2 = 1))
  ∧ (∀ s : State, ∃ t, exec .resetPinAsserted s = .next t ∧ ResetValues t ∧ t.resetHeld = true ∧ t.pending = s.pending)
  ∧ ∀ (c : Instr) (s : State), s.resetHeld = true → (∀ straps, c ≠ .reset straps) → c ≠ .resetPinAsserted → exec c s = .next s

/-- START_UP_FIRST_TICK on a part that has just been reset (R197): the pistol takes its first sample, each port reads its presence line
and is LINKING with its break or ABSENT, and the load begins.
That this tick advances the clock, and the port values before it, are the model's choice (entries 3 and
13). -/
def Obligations.FirstTickStartsUp : Prop :=
  ∀ (pins : Pins) (s : State), s.resetHeld = false → s.started = false → (∀ p, s.port p = portReset) →
    ∃ t, exec (.startUpFirstTick pins) s = .next t ∧ t.clock = s.clock + 1 ∧ t.started = true
      ∧ t.pistol.prev = some pins.pistol ∧ t.pistol.unit = s.pistol.unit
      ∧ t.store.job = .addressing ∧ t.store.deadline = some (s.clock + 201#32) ∧ t.store.state = s.store.state
      ∧ t.events = s.events ∧ t.seq = s.seq ∧ t.laneMap = s.laneMap ∧ t.rings = s.rings
      ∧ ∀ p : PortIx,
          if pins.presence.getLsbD p.val = true then
            t.port p = { portReset with link := .linking, presence := true, helloWaitEnd := some (s.clock + 5001#32),
                                        brk := .low (s.clock + 2#32) }
          else t.port p = { portReset with presence := false }

/-- TICK: the line clock advances by one and wraps to 0 (R1). What is still due at the old tick is taken first, as its commands take it, and is
due no longer: every end time that has come, a pistol event, a presence change, and a reply at its 2 ms, which leaves the transmitter IDLE; only
the abandoned reply of a RESTART brings the reset first, and the tick is then the first one after it (R178, R196). Then the pistol takes its
sample: in QUIET an edge, in QUALIFYING an inactive sample or the one at the qualify end, waits for its command, and in HELD the quiet run grows
or starts again (R4, R6, R8); each port reads its presence line (R26); the ring entries named fail their checks from now on (R67); and nothing
else changes but the two marks of the tick.
That a tick takes what is left due, in that order, that a sample waits for its command, the upsets of a tick, the first tick and the tick of the
2 ms are the model's choice (entries 4, 5, 6, 13 and 20). -/
def Obligations.TickAdvancesClock : Prop :=
  (∀ (pins : Pins) (upsets : List (LaneIx × Nat)) (s : State), s.resetHeld = false →
    ∃ t, exec (.tick pins upsets) s = .next t ∧ t.pins = pins ∧ t.started = true
      ∧ (s.started = false → exec (.startUpFirstTick pins) s = .next t)
      ∧ (s.started = true → s.host.restartPending = true → (∃ rep, s.host.tx = .waiting rep s.clock) →
          t.clock = 1#32 ∧ t.seq.history = [] ∧ t.store.state = .loading ∧ t.host.tx = .idle)
      ∧ (s.started = false ∨ s.host.restartPending = false ∨ (∀ rep, s.host.tx ≠ .waiting rep s.clock) → t.clock = s.clock + 1)
      ∧ (s.started = true → s.host.restartPending = false → (∃ rep, s.host.tx = .waiting rep s.clock) → t.host.tx = .idle)
      ∧ (s.started = true → s.host.restartPending = false ∨ (∀ rep, s.host.tx ≠ .waiting rep s.clock) → DueTaken s t))
  ∧ ∀ (pins : Pins) (upsets : List (LaneIx × Nat)) (s : State), s.resetHeld = false → s.started = true →
    ∃ u, Runs dueCommands s u ∧ (NothingDue s → u = s)
      ∧ (u.started = false → exec (.tick pins upsets) s = exec (.startUpFirstTick pins) u)
      ∧ (u.started = true → ∃ (x : Pistol) (rings : Vector Ring 10), exec (.tick pins upsets) s = .next
          { u with clock := u.clock + 1, pins := pins, pistol := x, rings := rings,
                   ports := Vector.ofFn fun p =>
                     { u.ports[p] with presenceRun := if pins.presence.getLsbD p.val = (u.ports[p]).presence then 0
                                                      else min ((u.ports[p]).presenceRun + 1) 20 },
                   events := { u.events with pulseThisTick := false }, store := { u.store with busUsed := false } }
        ∧ (u.pistol.unit = .quiet →
            x = if pins.pistol = true ∧ u.pistol.prev = some false then { u.pistol with sample := some true }
                else { u.pistol with prev := some pins.pistol, sample := none })
        ∧ (∀ te qe, u.pistol.unit = .qualifying te qe →
            x = if pins.pistol = true ∧ qe ≠ u.clock + 1 then { u.pistol with prev := some true, sample := none }
                else { u.pistol with sample := some pins.pistol })
        ∧ (u.pistol.unit = .held →
            x = { u.pistol with prev := some pins.pistol, sample := none,
                                quietRun := if pins.pistol then 0 else min (u.pistol.quietRun + 1) 500 })
        ∧ ∀ l : LaneIx, rings[l].writeIndex = (u.ring l).writeIndex ∧ rings[l].count = (u.ring l).count
            ∧ rings[l].frozenBy = (u.ring l).frozenBy
            ∧ ∀ i, rings[l].slots[i]? = (u.ring l).slots[i]?.map fun w => if (l, i) ∈ upsets then { w with intact := false } else w)

/-- R2: the difference of two times is b subtracted from a modulo 2^32, read as a signed 32-bit number; a is before b when it is
negative, at b when it is 0, after b when it is positive, at or before b when it is 0 or negative, and at or after b when it is 0 or
positive; and it is the true count of the ticks between two times less than 2^31 ticks apart. -/
def Obligations.TimeDifferenceIsSigned : Prop :=
  (∀ a b : Time,
    ((a.toNat + 4294967296 - b.toNat) % 4294967296 ≤ 2147483647 →
        tdiff a b = (((a.toNat + 4294967296 - b.toNat) % 4294967296 : Nat) : Int))
    ∧ (2147483648 ≤ (a.toNat + 4294967296 - b.toNat) % 4294967296 →
        tdiff a b = (((a.toNat + 4294967296 - b.toNat) % 4294967296 : Nat) : Int) - 4294967296)
    ∧ (isBefore a b = true ↔ tdiff a b < 0)
    ∧ (a = b ↔ tdiff a b = 0)
    ∧ (¬ (isBefore a b = true ∨ a = b) ↔ 0 < tdiff a b)
    ∧ (isBefore a b = true ∨ a = b ↔ tdiff a b ≤ 0)
    ∧ (isBefore a b = false ↔ 0 ≤ tdiff a b))
  ∧ ∀ (a : Time) (n : Nat), n < 2147483648 → tdiff (tadd a n) a = n ∧ tdiff a (tadd a n) = -(n : Int)

/-! ### Requests: common refusals, reading requests -/

/-- R173: a request of an unknown kind, of the wrong length, or, while the store is LOADING, of any kind but STATUS, is refused, in that
order, with an empty payload, and changes nothing but the reply that waits. UNKNOWN_KIND_REQUEST of an unknown kind is the first case. -/
def Obligations.CommonRefusals : Prop :=
  ∀ (c : Instr) (code : Byte) (r : Request) (s : State), requestOf c = some (code, r) → Takes s r → r.payload.length ≤ 200 →
    (kindOfCode code = none → exec c s = .next { s with host := answered s r code .unknownKind [] })
    ∧ (∀ k, kindOfCode code = some k →
        (r.payload.length ≠ k.length → exec c s = .next { s with host := answered s r code .badLength [] })
        ∧ (r.payload.length = k.length → s.store.state = .loading → k ≠ .status →
            exec c s = .next { s with host := answered s r code .busy [] }))

/-- STATUS and PORT (R179, R39): the reply holds the fields of section 12.5 as they stand, and a clear mark of 1 then sets the counts
to 0; a clear mark above 1 or a port above 11 is refused with BAD_VALUE. -/
def Obligations.StatusAndPortAnswered : Prop :=
  (∀ (s : State) (r : Request) (m : Byte), Takes s r → r.payload = [m] →
    (m = 0#8 → exec (.status r) s = .next { s with host := answered s r 0x01 .ok (statusBytes s) })
    ∧ (m = 1#8 → exec (.status r) s = .next
        { s with host := { answered s r 0x01 .ok (statusBytes s) with parityCount := 0, crcCount := 0, timeoutCount := 0 } })
    ∧ (1 < m.toNat → exec (.status r) s = .next { s with host := answered s r 0x01 .badValue [] }))
  ∧ (∀ s : State, statusBytes s =
      [match lineState s with | .idle => 0#8 | .marks => 1#8 | .set => 2#8 | .running => 3#8]
        ++ be16 (openId s) ++ be32 s.clock
        ++ allPorts.flatMap (fun p => [linkStateCode (s.port p).link,
             match mappedLane s p with | some l => BitVec.ofNat 8 (l.val + 1) | none => 0#8])
        ++ [match s.store.state with
            | .loading => 0#8 | .loaded => 1#8 | .defaultsAbsent => 2#8 | .defaultsBad => 3#8 | .saving => 4#8 | .saveFailed => 5#8]
        ++ be16 s.host.parityCount ++ be16 s.host.crcCount ++ be16 s.host.timeoutCount
        ++ [BitVec.ofNat 8 s.events.list.length, if s.events.overflow then 1#8 else 0#8, 0x5A#8, 0x10#8, 0x01#8])
  ∧ (∀ (s : State) (r : Request) (a m : Byte) (p : PortIx), Serves s r → r.payload = [a, m] → a.toNat = p.val →
    (m = 0#8 → exec (.port r) s = .next { s with host := answered s r 0x03 .ok (portBytes p s) })
    ∧ (m = 1#8 → exec (.port r) s = .next
        { s with ports := s.ports.set p { s.ports[p] with parityCount := 0, checkCount := 0, jumpCount := 0 },
                 host := answered s r 0x03 .ok (portBytes p s) })
    ∧ (1 < m.toNat → exec (.port r) s = .next { s with host := answered s r 0x03 .badValue [] }))
  ∧ (∀ (s : State) (r : Request) (a m : Byte), Serves s r → r.payload = [a, m] → 11 < a.toNat →
      exec (.port r) s = .next { s with host := answered s r 0x03 .badValue [] })
  ∧ ∀ (s : State) (p : PortIx), portBytes p s =
      [BitVec.ofNat 8 p.val, (match (s.port p).link with | .absent => 0#8 | .linking => 1#8 | .streaming => 2#8 | .lost => 3#8),
        (match mappedLane s p with | some l => BitVec.ofNat 8 (l.val + 1) | none => 0#8),
        if (s.port p).presence then 1#8 else 0#8, BitVec.ofNat 8 ((s.port p).capability.getD 0),
        if (s.port p).mismatched then 1#8 else 0#8, if (s.port p).lamp then 1#8 else 0#8,
        if (s.port p).lastValid.isSome then 1#8 else 0#8]
        ++ be32 ((s.port p).lastValid.getD 0#32) ++ [BitVec.ofNat 8 (s.port p).consecutiveBad]
        ++ allChans.map (fun c => match (s.port p).expected[c] with | some n => n.setWidth 8 | none => 0xFF#8)
        ++ be16 (s.port p).parityCount ++ be16 (s.port p).checkCount ++ be16 (s.port p).jumpCount

/-- EVENTS (R183): the oldest events, as many as max or as many as the list holds, are returned with the overflow mark and the number
left, and are removed; the mark is cleared. A max outside 1 to 16 is refused and changes nothing. An event is returned in the 12 bytes of
section 12.6. -/
def Obligations.EventsFetched : Prop :=
  (∀ (s : State) (r : Request) (m : Byte), Serves s r → r.payload = [m] →
    (1 ≤ m.toNat → m.toNat ≤ 16 → exec (.events r) s = .next
      { s with
        events := { s.events with list := s.events.list.drop m.toNat, overflow := false },
        host := answered s r 0x02 .ok
          ([if s.events.overflow then 1#8 else 0#8, BitVec.ofNat 8 (min m.toNat s.events.list.length),
            BitVec.ofNat 8 (s.events.list.length - m.toNat)] ++ (s.events.list.take m.toNat).flatMap eventBytes) })
    ∧ (m.toNat = 0 ∨ 16 < m.toNat → exec (.events r) s = .next { s with host := answered s r 0x02 .badValue [] }))
  ∧ ∀ e : Event, eventBytes e =
      (match e.kind with
        | .shot => 0x01#8 | .glitch => 0x02#8 | .unarmedShot => 0x03#8 | .recallShot => 0x04#8 | .earlyMove => 0x05#8
        | .unsteady => 0x06#8 | .falseStart => 0x07#8 | .recallSent => 0x08#8 | .decided => 0x09#8 | .aborted => 0x0A#8
        | .linkUp => 0x0B#8 | .linkLost => 0x0C#8 | .zeroDone => 0x0D#8 | .zeroFail => 0x0E#8 | .storeDone => 0x0F#8
        | .storeFail => 0x10#8 | .checkFault => 0x11#8)
      :: be32 e.time ++ [match e.lane with | some l => BitVec.ofNat 8 (l.val + 1) | none => 0#8] ++ be16 e.attempt ++ be32 e.value

/-- LANE_GET, PROFILE_GET and LINE_GET (R54): the reply carries the entry as it stands, and nothing else changes; a lane or profile number
out of range is refused with BAD_VALUE. -/
def Obligations.TablesRead : Prop :=
  (∀ (s : State) (r : Request) (b : Byte) (l : LaneIx), Serves s r → r.payload = [b] → b.toNat = l.val + 1 →
    exec (.laneGet r) s = .next { s with host := answered s r 0x11 .ok (b :: laneEntryBytes (s.lane l)) })
  ∧ (∀ (s : State) (r : Request) (b : Byte), Serves s r → r.payload = [b] → b.toNat = 0 ∨ 10 < b.toNat →
    exec (.laneGet r) s = .next { s with host := answered s r 0x11 .badValue [] })
  ∧ (∀ (s : State) (r : Request) (b : Byte) (n : Fin 4), Serves s r → r.payload = [b] → b.toNat = n.val →
    exec (.profileGet r) s = .next { s with host := answered s r 0x13 .ok (b :: profileBytes (s.profile n)) })
  ∧ (∀ (s : State) (r : Request) (b : Byte), Serves s r → r.payload = [b] → 3 < b.toNat →
    exec (.profileGet r) s = .next { s with host := answered s r 0x13 .badValue [] })
  ∧ ∀ (s : State) (r : Request), Serves s r → r.payload = [] →
    exec (.lineGet r) s = .next { s with host := answered s r 0x15 .ok (lineBytes s.line) }

/-- Every lane entry, profile and line settings within its ranges is read back from the bytes that carry it (section 12.2, R198). -/
def Obligations.TableLayoutsRoundTrip : Prop :=
  (∀ e : LaneEntry, e.Ok → (laneEntryBytes e).length = 22 ∧ laneEntryOfBytes (laneEntryBytes e) = some e)
  ∧ (∀ p : Profile, p.Ok → (profileBytes p).length = 5 ∧ profileOfBytes (profileBytes p) = some p)
  ∧ ∀ c : LineSettings, c.Ok → (lineBytes c).length = 12 ∧ lineOfBytes (lineBytes c) = some c

/-! ### Requests: writing the tables, ZERO -/

/-- LANE_SET (R45 to R48, R198): a lane byte outside 1 to 10, and an encoding out of its range anywhere in the entry, is refused with
BAD_VALUE, and so is a port held by another lane; then a lane of the open record, a lane with a ZERO in flight, and a store that is SAVING
refuse with BUSY. A request that passes writes the whole entry; with the port and the sets unchanged, or no port concerned LINKING or
STREAMING, it changes nothing else. -/
def Obligations.LaneSetWritesEntry : Prop :=
  (∀ (s : State) (r : Request) (b : Byte) (l : LaneIx) (e : LaneEntry), Serves s r → r.payload = b :: laneEntryBytes e → e.Ok →
    b.toNat = l.val + 1 →
    ((∃ k p, k ≠ l ∧ e.port = some p ∧ (s.lane k).port = some p) →
      exec (.laneSet r) s = .next { s with host := answered s r 0x10 .badValue [] })
    ∧ ((∀ k p, k ≠ l → e.port = some p → (s.lane k).port ≠ some p) →
        (l ∈ openLanes s ∨ (s.zero l).isSome ∨ s.store.state = .saving →
          exec (.laneSet r) s = .next { s with host := answered s r 0x10 .busy [] })
        ∧ (l ∉ openLanes s → s.zero l = none → s.store.state ≠ .saving →
          ((s.lane l).port = e.port ∧ (s.lane l).sumSet = e.sumSet ∧ (s.lane l).commitSet = e.commitSet)
            ∨ (∀ p, (s.lane l).port = some p ∨ e.port = some p → (s.port p).link = .absent) →
          exec (.laneSet r) s = .next { s with laneMap := s.laneMap.set l e, host := answered s r 0x10 .ok [] })))
  ∧ ∀ (s : State) (r : Request) (b p sm cm g0 h0 g1 h1 g2 h2 g3 h3 z0 y0 z1 y1 z2 y2 z3 y3 lat prof lamp : Byte), Serves s r →
    r.payload = [b, p, sm, cm, g0, h0, g1, h1, g2, h2, g3, h3, z0, y0, z1, y1, z2, y2, z3, y3, lat, prof, lamp] →
    b.toNat = 0 ∨ 10 < b.toNat ∨ (12 ≤ p.toNat ∧ p.toNat ≤ 0xFE) ∨ sm.toNat = 0 ∨ 15 < sm.toNat ∨ cm.toNat = 0 ∨ 15 < cm.toNat
      ∨ (g0 ++ h0).toNat = 0 ∨ 16383 < (g0 ++ h0).toNat ∨ (g1 ++ h1).toNat = 0 ∨ 16383 < (g1 ++ h1).toNat
      ∨ (g2 ++ h2).toNat = 0 ∨ 16383 < (g2 ++ h2).toNat ∨ (g3 ++ h3).toNat = 0 ∨ 16383 < (g3 ++ h3).toNat
      ∨ 3 < prof.toNat ∨ 1 < lamp.toNat →
    exec (.laneSet r) s = .next { s with host := answered s r 0x10 .badValue [] }

/-- LANE_SET that changes a lane's port or sets (R48, R28): of the former and the new port, each that is LINKING or STREAMING makes a
link reset and is LINKING with nothing known of the pod and its break to come, behind the frame being sent and, from STREAMING, stream-off;
an ABSENT one stays as it is; a link reset clears the lane's buffer with a gap pending; and no event is placed.
LINE_SET that changes the sample rate (R52): every port that is LINKING or STREAMING makes a link reset, every other port stays as it
is, the buffer of each lane mapped to a port so reset is cleared and no other, and every ZERO in flight on a port that was STREAMING has
ended.
The order of the writes within one LINE_SET, that a frame offered to an idle line is being sent at once, and the tick of the break end are
the model's reading (entries 10 and 12). -/
def Obligations.TableChangesResetLinks : Prop :=
  (∀ (s : State) (r : Request) (b : Byte) (l : LaneIx) (e : LaneEntry), Serves s r → r.payload = b :: laneEntryBytes e → e.Ok →
    b.toNat = l.val + 1 → (∀ k p, k ≠ l → e.port = some p → (s.lane k).port ≠ some p) → l ∉ openLanes s → s.zero l = none →
    s.store.state ≠ .saving → e.port ≠ (s.lane l).port ∨ e.sumSet ≠ (s.lane l).sumSet ∨ e.commitSet ≠ (s.lane l).commitSet →
    ∃ t, exec (.laneSet r) s = .next t ∧ t.laneMap = s.laneMap.set l e ∧ t.events = s.events ∧ t.rings = s.rings
      ∧ t.zeros = s.zeros ∧ t.host = answered s r 0x10 .ok []
      ∧ (∀ p, (s.lane l).port = some p ∨ e.port = some p →
          ((s.port p).link = .linking ∨ (s.port p).link = .streaming →
            (t.port p).link = .linking ∧ (t.port p).helloWaitEnd = some (s.clock + 5000#32) ∧ (t.port p).silenceEnd = none
              ∧ (t.port p).streamingSince = none ∧ (t.port p).capability = none ∧ (t.port p).mismatched = false
              ∧ (t.port p).lamp = false ∧ (t.port p).consecutiveBad = 0 ∧ (∀ c : Chan, (t.port p).expected[c] = none)
              ∧ (t.port p).lastValid = (s.port p).lastValid ∧ (t.port p).presence = (s.port p).presence)
          ∧ ((s.port p).link = .streaming → (t.port p).brk = .waits ∧ (t.port p).sending = some ((s.port p).sending.getD .streamOff)
              ∧ (t.port p).queue = if (s.port p).sending = none then [] else [.streamOff])
          ∧ ((s.port p).link = .linking → (t.port p).sending = (s.port p).sending ∧ (t.port p).queue = []
              ∧ (t.port p).brk = if (s.port p).sending = none then .low (s.clock + 1#32) else .waits)
          ∧ ((s.port p).link = .absent → t.port p = s.port p))
      ∧ (∀ p, (s.lane l).port ≠ some p → e.port ≠ some p → t.port p = s.port p)
      ∧ (∀ k, k ≠ l → t.assembler k = s.assembler k)
      ∧ ((∀ p, (s.lane l).port = some p ∨ e.port = some p → (s.port p).link = .absent) → t.assembler l = s.assembler l)
      ∧ (∀ p, (s.lane l).port = some p ∨ e.port = some p → (s.port p).link = .linking ∨ (s.port p).link = .streaming →
          (t.assembler l).gapPending = true ∧ ∀ c : Chan, (t.assembler l).raw[c] = none ∧ (t.assembler l).fresh[c] = false
            ∧ (t.assembler l).overload[c] = false))
  ∧ (∀ (s : State) (r : Request) (c : LineSettings), Serves s r → r.payload = lineBytes c → c.Ok → lineState s = .idle →
    s.store.state ≠ .saving → c.rate ≠ s.line.rate →
    ∃ t, exec (.lineSet r) s = .next t ∧ t.line = c ∧ t.laneMap = s.laneMap ∧ t.rings = s.rings ∧ t.host = answered s r 0x14 .ok []
      ∧ (∀ p, (s.port p).link = .linking ∨ (s.port p).link = .streaming →
          (t.port p).link = .linking ∧ (t.port p).helloWaitEnd = some (s.clock + 5000#32) ∧ (t.port p).capability = none
            ∧ ((s.port p).link = .streaming → (t.port p).brk = .waits ∧ (t.port p).sending = some ((s.port p).sending.getD .streamOff)
                ∧ (t.port p).queue = if (s.port p).sending = none then [] else [.streamOff]))
      ∧ (∀ p, (s.port p).link = .absent → t.port p = s.port p)
      ∧ ∀ l, ((∀ p, mappedLane s p = some l → (s.port p).link = .absent) → t.assembler l = s.assembler l ∧ t.zero l = s.zero l)
        ∧ ∀ p, (s.lane l).port = some p → mappedLane s p = some l →
          ((s.port p).link = .streaming → t.zero l = none)
          ∧ ((s.port p).link = .linking ∨ (s.port p).link = .streaming →
              (t.assembler l).gapPending = true ∧ ∀ c : Chan, (t.assembler l).raw[c] = none ∧ (t.assembler l).fresh[c] = false
                ∧ (t.assembler l).overload[c] = false))

/-- PROFILE_SET and LINE_SET (R45, R50, R51, R53, R198): a field out of its range refuses with BAD_VALUE; then a profile in use by the open
record, an open record for LINE_SET, and a store that is SAVING refuse with BUSY; a request that passes writes the profile or the line
settings as a whole. A LINE_SET that keeps the sample rate resets no port; a change of ATTN mode drops the pulses owed, and a change to
PULSE ends a pulse under way. -/
def Obligations.ProfileAndLineWritten : Prop :=
  (∀ (s : State) (r : Request) (b : Byte) (n : Fin 4) (p : Profile), Serves s r → r.payload = b :: profileBytes p → p.Ok →
    b.toNat = n.val →
    ((∃ l ∈ openLanes s, (s.lane l).profile = n) ∨ s.store.state = .saving →
      exec (.profileSet r) s = .next { s with host := answered s r 0x12 .busy [] })
    ∧ ((∀ l ∈ openLanes s, (s.lane l).profile ≠ n) → s.store.state ≠ .saving →
      exec (.profileSet r) s = .next { s with profiles := s.profiles.set n p, host := answered s r 0x12 .ok [] }))
  ∧ (∀ (s : State) (r : Request) (c : LineSettings), Serves s r → r.payload = lineBytes c → c.Ok →
    (lineState s ≠ .idle ∨ s.store.state = .saving → exec (.lineSet r) s = .next { s with host := answered s r 0x14 .busy [] })
    ∧ (lineState s = .idle → s.store.state ≠ .saving → c.rate = s.line.rate →
      exec (.lineSet r) s = .next
        { s with
          line := c,
          events := { s.events with owed := if c.attnMode = s.line.attnMode then s.events.owed else 0,
                                    pulse := if s.line.attnMode = .level ∧ c.attnMode = .pulse then false else s.events.pulse },
          host := answered s r 0x14 .ok [] }))
  ∧ (∀ (s : State) (r : Request) (b th tl k p u : Byte), Serves s r → r.payload = [b, th, tl, k, p, u] →
    3 < b.toNat ∨ (th ++ tl).toNat < 50 ∨ 2000 < (th ++ tl).toNat ∨ k.toNat = 0 ∨ 8 < k.toNat ∨ p.toNat = 0 ∨ 8 < p.toNat ∨ 1 < u.toNat →
    exec (.profileSet r) s = .next { s with host := answered s r 0x12 .badValue [] })
  ∧ ∀ (s : State) (r : Request) (rh rl wh wl sh sl q ph pl auto mode rate : Byte), Serves s r →
    r.payload = [rh, rl, wh, wl, sh, sl, q, ph, pl, auto, mode, rate] →
    2000 < (rh ++ rl).toNat ∨ (wh ++ wl).toNat < 1000 ∨ 5000 < (wh ++ wl).toNat ∨ 20000 < (sh ++ sl).toNat ∨ q.toNat = 0
      ∨ 100 < q.toNat ∨ (ph ++ pl).toNat < 100 ∨ 10000 < (ph ++ pl).toNat ∨ 1 < auto.toNat ∨ 1 < mode.toNat ∨ rate.toNat = 0
      ∨ 3 < rate.toNat →
    exec (.lineSet r) s = .next { s with host := answered s r 0x14 .badValue [] }

/-- ZERO (R72, R73): a lane byte outside 1 to 10 is refused with BAD_VALUE; on a lane of the map it is accepted when the lane has a stream,
the line is IDLE, no ZERO is in flight on it and the store is not SAVING, and refused in the order of R72 otherwise. -/
def Obligations.ZeroStarts : Prop :=
  (∀ (s : State) (r : Request) (b : Byte), Serves s r → r.payload = [b] → b.toNat = 0 ∨ 10 < b.toNat →
    exec (.zero r) s = .next { s with host := answered s r 0x18 .badValue [] })
  ∧ ∀ (s : State) (r : Request) (b : Byte) (l : LaneIx), Serves s r → r.payload = [b] → b.toNat = l.val + 1 →
    ((s.lane l).port = none → exec (.zero r) s = .next { s with host := answered s r 0x18 .badValue [] })
    ∧ ∀ p, (s.lane l).port = some p →
      (lineState s ≠ .idle ∨ (s.port p).link ≠ .streaming ∨ (s.port p).mismatched = true →
        exec (.zero r) s = .next { s with host := answered s r 0x18 .state [] })
      ∧ (lineState s = .idle → (s.port p).link = .streaming → (s.port p).mismatched = false →
          ((s.zero l).isSome ∨ s.store.state = .saving →
            exec (.zero r) s = .next { s with host := answered s r 0x18 .busy [] })
          ∧ (s.zero l = none → s.store.state ≠ .saving →
            exec (.zero r) s = .next
              { s with zeros := s.zeros.set l (some { count := 0, sums := Vector.replicate 4 0, timeoutEnd := s.clock + 5000#32 }),
                       host := answered s r 0x18 .ok [] }))

/-- A ZERO ends (R75, R76, R77): at its timeout end with ZERO_FAIL, value 1, its offsets unchanged; at its 64th commit with the mean of
each summation channel's 64 values, to the nearest integer and halves toward +infinity, written as that channel's offset. -/
def Obligations.ZeroEnds : Prop :=
  (∀ (s : State) (l : LaneIx) (z : ZeroRun), s.resetHeld = false → s.zero l = some z → z.timeoutEnd = s.clock →
    exec (.zeroTimeout l) s = .next
      { s with zeros := s.zeros.set l none,
               events := arrive s.line.attnMode { kind := .zeroFail, time := s.clock, lane := some l, attempt := openId s, value := 1 }
                 s.events })
  ∧ (∀ (s : State) (l : LaneIx) (z : ZeroRun), s.zero l = some z → z.count = 63 →
    ∃ t, zeroCommit l s = t ∧ t.zero l = none
      ∧ t.events = arrive s.line.attnMode { kind := .zeroDone, time := s.clock, lane := some l, attempt := openId s, value := 0 } s.events
      ∧ (∀ k, k ≠ l → t.lane k = s.lane k)
      ∧ ∃ zs : Vector Int 4, t.lane l = { s.lane l with zeros := zs }
      ∧ ∀ c : Chan,
          ((s.lane l).sumSet.getLsbD c.val = false → zs[c] = (s.lane l).zeros[c])
          ∧ ((s.lane l).sumSet.getLsbD c.val = true → ∀ v, (s.assembler l).raw[c] = some v →
              -32 ≤ z.sums[c] + v.toInt - 64 * zs[c] ∧ z.sums[c] + v.toInt - 64 * zs[c] < 32))
  ∧ ∀ (s : State) (l : LaneIx) (z : ZeroRun), s.zero l = some z → z.count < 63 →
    ∃ sums, zeroCommit l s = s.setZero l (some { z with count := z.count + 1, sums := sums })
      ∧ ∀ c : Chan, (s.lane l).sumSet.getLsbD c.val = true → ∀ v, (s.assembler l).raw[c] = some v → sums[c] = z.sums[c] + v.toInt

/-! ### Requests: the attempt -/

/-- MARKS (R87, R88, R89): a heat of 0, a lane mask that is 0 or names no lane, and a lane with port none are refused with BAD_VALUE, an
open record with STATE. Accepted, the record is created with the counter's id, the counter advances, the oldest of 8 records is removed
with a reservation held on it, each ZERO in flight on the set ends with ZERO_FAIL, value 3, every frozen ring is released with its entries
kept, lamp-off is offered to each STREAMING port whose lamp is on, the set's detectors are made ready, and a lane without a stream carries
LINK.
That the ZERO_FAIL events come in ascending lane number is the model's choice (entry 21). -/
def Obligations.MarksOpensAttempt : Prop :=
  (∀ (s : State) (r : Request) (heat mask : BitVec 16), Serves s r →
    r.payload = [heat.extractLsb' 8 8, heat.extractLsb' 0 8, mask.extractLsb' 8 8, mask.extractLsb' 0 8] →
    (heat = 0#16 ∨ mask = 0#16 ∨ mask.getLsbD 0 = true ∨ (∃ i, 11 ≤ i ∧ i ≤ 15 ∧ mask.getLsbD i = true)
        ∨ (∃ l, mask.getLsbD (laneNumber l) = true ∧ (s.lane l).port = none) →
      exec (.marks r) s = .next { s with host := answered s r 0x20 .badValue [] })
    ∧ (heat ≠ 0#16 → mask ≠ 0#16 → mask.getLsbD 0 = false → (∀ i, 11 ≤ i → i ≤ 15 → mask.getLsbD i = false) →
        (∀ l, mask.getLsbD (laneNumber l) = true → (s.lane l).port ≠ none) → lineState s ≠ .idle →
      exec (.marks r) s = .next { s with host := answered s r 0x20 .state [] }))
  ∧ ∀ (s : State) (r : Request) (heat mask : BitVec 16) (lanes : List LaneIx), Serves s r →
    r.payload = [heat.extractLsb' 8 8, heat.extractLsb' 0 8, mask.extractLsb' 8 8, mask.extractLsb' 0 8] →
    heat ≠ 0#16 → mask ≠ 0#16 → mask.getLsbD 0 = false → (∀ i, 11 ≤ i → i ≤ 15 → mask.getLsbD i = false) →
    lanes = (allLanes.filter fun l => mask.getLsbD (laneNumber l)) → (∀ l ∈ lanes, (s.lane l).port ≠ none) → lineState s = .idle →
    HistoryInv s →
    ∃ t rec, exec (.marks r) s = .next t
      ∧ t.seq.history = (if s.seq.history.length = 8 then s.seq.history.tail else s.seq.history) ++ [rec]
      ∧ rec.id = s.seq.nextId ∧ rec.heat = heat.toNat ∧ rec.state = .marks ∧ rec.lanes = lanes ∧ rec.falseList = []
      ∧ rec.number = attemptNumber heat.toNat s.seq.history.getLast?
      ∧ rec.t0 = none ∧ rec.windowClose = none ∧ rec.recallPulse = none ∧ rec.recallShot = none
      ∧ (∀ x ∈ rec.results, x = { newResult x.lane with flags := { link := !hasStream s x.lane } })
      ∧ t.seq.nextId = (if s.seq.nextId = 65535 then 1 else s.seq.nextId + 1)
      ∧ (∀ l, t.ring l = { s.ring l with frozenBy := none })
      ∧ (∀ l, (s.ring l).frozenBy ≠ none → (t.assembler l).gapPending = true)
      ∧ (∀ l ∈ lanes, t.zero l = none) ∧ (∀ l, l ∉ lanes → t.zero l = s.zero l ∧ t.detector l = s.detector l)
      ∧ (∀ l ∈ lanes, t.detector l = { detectorReset with attempt := some s.seq.nextId, linkOut := !hasStream s l })
      ∧ (∀ p, (s.port p).link = .streaming → (s.port p).lamp = true → t.port p = { offerFrame .lampOff (s.port p) with lamp := false })
      ∧ (∀ p, (s.port p).link ≠ .streaming ∨ (s.port p).lamp = false → t.port p = s.port p)
      ∧ (∀ l, (s.ring l).frozenBy = none → t.assembler l = s.assembler l)
      ∧ t.events = (lanes.filter fun l => (s.zero l).isSome).foldl (fun q l => arrive s.line.attnMode
          { kind := .zeroFail, time := s.clock, lane := some l, attempt := s.seq.nextId, value := 3#32 } q) s.events
      ∧ (∀ old, s.seq.history.length = 8 → s.seq.history.head? = some old → s.reservation = some old.id → t.reservation = none)
      ∧ (s.reservation ≠ some s.seq.nextId →
          (s.seq.history.length = 8 → ∀ old, s.seq.history.head? = some old → s.reservation ≠ some old.id) →
          t.reservation = s.reservation)
      ∧ t.clock = s.clock ∧ t.pistol = s.pistol ∧ t.laneMap = s.laneMap ∧ t.profiles = s.profiles ∧ t.line = s.line
      ∧ t.driver = s.driver ∧ t.store = s.store
      ∧ t.host = answered s r 0x20 .ok (be16 s.seq.nextId ++ be8 (attemptNumber heat.toNat s.seq.history.getLast?))

/-- The attempt number of a new record, by the newest record already held (R84); MARKS gives it to the record that it creates, the
removal of the oldest record leaves the newest as it is, and a reset empties the history. -/
def Obligations.AttemptNumberInHeat : Prop :=
  (∀ heat : Nat, attemptNumber heat none = 1)
  ∧ (∀ (heat : Nat) (r : Record),
      (r.heat ≠ heat → attemptNumber heat (some r) = 1)
      ∧ (r.heat = heat → r.number ≤ 254 → attemptNumber heat (some r) = r.number + 1)
      ∧ (r.heat = heat → r.number = 255 → attemptNumber heat (some r) = 255))
  ∧ (∀ (heat : Nat) (lanes : List LaneIx) (s : State), ∃ rec, (marksAccepted heat lanes s).seq.history.getLast? = some rec
      ∧ rec.heat = heat ∧ rec.number = attemptNumber heat s.seq.history.getLast?)
  ∧ (∀ s : State, newestRecord (removeOldest s) = newestRecord s)
  ∧ ∀ (pins : Pins) (held : Bool) (pending : List Instr), newestRecord (State.afterReset pins held pending) = none

/-- SET (R90, R106): in MARKS the record becomes SET, the set time and the settle end are recorded, the early edge mark is set when an edge
from before now is being qualified, and every detector ready for SET enters SETTLING, or CAPTURE with a settle delay of 0. In every other
line state SET is refused with STATE. -/
def Obligations.SetStartsSettle : Prop :=
  (∀ (s : State) (r : Request) (rec : Record), Serves s r → r.payload = [] → openRecord s = some rec → rec.state = .marks →
    (∀ l ∈ rec.lanes, (s.detector l).state ≠ .settling) →
    exec (.set r) s = .next
      { s with
        seq := { s.seq with history := s.seq.history.map fun x => if x.id = rec.id then { x with state := .set } else x,
                            setTime := some s.clock,
                            settleEnd := if s.line.settle = 0 then none else some (tadd s.clock s.line.settle),
                            earlyEdge := (match s.pistol.unit with | .qualifying te _ => isBefore te s.clock | _ => false) },
        reservation := if s.reservation = some rec.id then none else s.reservation,
        detectors := Vector.ofFn fun l =>
          if l ∈ rec.lanes ∧ (s.detector l).state = .off ∧ (s.detector l).attempt ≠ none ∧ (s.detector l).linkOut = false then
            { s.detector l with state := if s.line.settle = 0 then .capture else .settling }
          else s.detector l,
        host := answered s r 0x21 .ok [] })
  ∧ ∀ (s : State) (r : Request), Serves s r → r.payload = [] → lineState s ≠ .marks →
      exec (.set r) s = .next { s with host := answered s r 0x21 .state [] }

/-- STAND (R96, R142, R143, R145, R128): in MARKS or SET the record closes as ABORTED with no lane PENDING, a lane that held a crossing is
FALSE with its onset and no reaction time, and has its FALSE_START, in ascending lane number, with no reaction time and its place at
insertion, every other PENDING lane is VOID, the rings are frozen with the record's id, the detectors are DONE, and ABORTED with the
length of the list is the newest event. In IDLE and RUNNING it is refused. -/
def Obligations.StandAborts : Prop :=
  (∀ (s : State) (r : Request) (rec : Record), Serves s r → r.payload = [] → openRecord s = some rec →
    rec.state = .marks ∨ rec.state = .set → HistoryInv s →
    ∃ t rec', exec (.stand r) s = .next t ∧ recordOf t rec.id = some rec' ∧ rec'.state = .aborted ∧ rec'.lanes = rec.lanes
      ∧ rec'.t0 = rec.t0 ∧ rec'.recallPulse = rec.recallPulse ∧ lineState t = .idle
      ∧ (∀ l x, rec.result l = some x → ∃ y, rec'.result l = some y
          ∧ (x.verdict ≠ .pending → y.verdict = x.verdict ∧ y.onset = x.onset ∧ y.rt = x.rt)
          ∧ (x.verdict = .pending → (s.detector l).held = none → y = { x with verdict := .void })
          ∧ (x.verdict = .pending → ∀ c, (s.detector l).held = some c →
              y.verdict = .falseStart ∧ y.onset = some c.onset ∧ y.rt = none ∧ l ∈ rec'.falseList))
      ∧ (∀ l, t.ring l = if l ∈ rec.lanes then { s.ring l with frozenBy := some rec.id } else s.ring l)
      ∧ (∀ l ∈ rec.lanes, (t.detector l).state = .done ∧ (t.detector l).attempt = none ∧ (t.detector l).held = none
          ∧ (t.detector l).heldAgeEnd = none ∧ (t.detector l).hold = false)
      ∧ (∀ l, l ∉ rec.lanes → t.detector l = s.detector l)
      ∧ (∀ id, id ≠ rec.id → recordOf t id = recordOf s id)
      ∧ t.seq.settleEnd = none ∧ t.seq.setTime = none ∧ t.seq.nextId = s.seq.nextId
      ∧ t.clock = s.clock ∧ t.pistol = s.pistol ∧ t.driver = s.driver ∧ t.ports = s.ports ∧ t.laneMap = s.laneMap
      ∧ t.profiles = s.profiles ∧ t.line = s.line ∧ t.assemblers = s.assemblers ∧ t.zeros = s.zeros ∧ t.store = s.store
      ∧ (s.reservation = some rec.id → t.reservation = none)
      ∧ (t.events.list.length < 32 → t.events.list.getLast? = some
          { kind := .aborted, time := s.clock, lane := none, attempt := rec.id, value := BitVec.ofNat 32 rec'.falseList.length })
      ∧ (FalseListInv s → t.events = arrive s.line.attnMode
          { kind := .aborted, time := s.clock, lane := none, attempt := rec.id, value := BitVec.ofNat 32 rec'.falseList.length }
          ((rec.lanes.filter fun l =>
              (s.detector l).held.isSome && decide ((rec.result l).map LaneResult.verdict = some Verdict.pending)).foldl
            (fun q l => arrive s.line.attnMode
              { kind := .falseStart, time := s.clock, lane := some l, attempt := rec.id,
                value := 0x8000#16 ++ BitVec.ofNat 16
                  ((rec'.falseList.filter fun k => decide (k ∈ rec.falseList) || decide (k ≤ l)).idxOf l + 1) } q) s.events))
      ∧ t.host = answered s r 0x22 .ok [])
  ∧ ∀ (s : State) (r : Request), Serves s r → r.payload = [] → lineState s = .idle ∨ lineState s = .running →
      exec (.stand r) s = .next { s with host := answered s r 0x22 .state [] }

/-- RECORD and RESERVE (R100, R153): both return the record named, 0 naming the newest, in the layout of section 12.4; RESERVE also holds it,
and RECORD changes nothing. With no such record both answer NO_RECORD and change nothing.
RULE (R155, R156): an attempt id of 0, a lane outside 1 to 10 and a decision that is neither of the two are BAD_VALUE and keep the
reservation; a reservation on another id or none, or on an id that no record has, is STALE and clears it; a lane outside the set is BAD_VALUE
and an open record STATE, and both keep it; otherwise the decision is written and the reservation used up. -/
def Obligations.RecordsReservedAndRuled : Prop :=
  (∀ (s : State) (r : Request) (h l : Byte), Serves s r → r.payload = [h, l] →
    (∀ rec, (if (h ++ l).toNat = 0 then s.seq.history.getLast? else s.seq.history.find? fun x => x.id = (h ++ l).toNat) = some rec →
      exec (.record r) s = .next { s with host := answered s r 0x23 .ok (recordBytes rec) }
      ∧ exec (.reserve r) s = .next { s with reservation := some rec.id, host := answered s r 0x30 .ok (recordBytes rec) })
    ∧ ((if (h ++ l).toNat = 0 then s.seq.history.getLast? else s.seq.history.find? fun x => x.id = (h ++ l).toNat) = none →
      exec (.record r) s = .next { s with host := answered s r 0x23 .noRecord [] }
      ∧ exec (.reserve r) s = .next { s with host := answered s r 0x30 .noRecord [] }))
  ∧ (∀ (s : State) (r : Request) (h l lane dec : Byte), Serves s r → r.payload = [h, l, lane, dec] →
    (h ++ l).toNat = 0 ∨ lane.toNat = 0 ∨ 10 < lane.toNat ∨ (dec ≠ 0x01#8 ∧ dec ≠ 0x02#8) →
    exec (.rule r) s = .next { s with host := answered s r 0x31 .badValue [] })
  ∧ (∀ (s : State) (r : Request) (h l lane dec : Byte) (n : LaneIx) (d : Decision), Serves s r → r.payload = [h, l, lane, dec] →
    lane.toNat = n.val + 1 → (dec = 0x01#8 ∧ d = .upheld) ∨ (dec = 0x02#8 ∧ d = .annulled) → (h ++ l).toNat ≠ 0 →
    (s.reservation ≠ some (h ++ l).toNat ∨ recordOf s (h ++ l).toNat = none →
      exec (.rule r) s = .next { s with reservation := none, host := answered s r 0x31 .stale [] })
    ∧ (s.reservation = some (h ++ l).toNat → ∀ rec, recordOf s (h ++ l).toNat = some rec →
        (n ∉ rec.lanes → exec (.rule r) s = .next { s with host := answered s r 0x31 .badValue [] })
        ∧ (n ∈ rec.lanes → rec.isOpen = true → exec (.rule r) s = .next { s with host := answered s r 0x31 .state [] })
        ∧ (n ∈ rec.lanes → rec.isOpen = false → exec (.rule r) s = .next
            { s with
              seq := { s.seq with history := s.seq.history.map fun x =>
                if x.id = rec.id then
                  { x with results := x.results.map fun y => if y.lane = n then { y with decision := some d } else y }
                else x },
              reservation := none, host := answered s r 0x31 .ok [] })))
  ∧ ∀ rec : Record, ∃ mask : BitVec 16, (∀ i, i < 16 → (mask.getLsbD i = true ↔ ∃ l ∈ rec.lanes, l.val + 1 = i))
      ∧ recordBytes rec = be16 rec.id ++ be16 rec.heat
        ++ [BitVec.ofNat 8 rec.number,
            (match rec.state with | .marks => 1#8 | .set => 2#8 | .running => 3#8 | .decided => 4#8 | .aborted => 5#8),
            mask.extractLsb' 8 8, mask.extractLsb' 0 8,
            0#4 ++ BitVec.ofBool rec.recallShot.isSome ++ BitVec.ofBool rec.recallPulse.isSome
              ++ BitVec.ofBool rec.windowClose.isSome ++ BitVec.ofBool rec.t0.isSome]
        ++ be32 (rec.t0.getD 0) ++ be32 (rec.windowClose.getD 0) ++ be32 (rec.recallPulse.getD 0) ++ be32 (rec.recallShot.getD 0)
        ++ [BitVec.ofNat 8 rec.falseList.length] ++ rec.falseList.map (fun l => BitVec.ofNat 8 (l.val + 1))
        ++ rec.results.flatMap fun x =>
            [BitVec.ofNat 8 (x.lane.val + 1),
              (match x.verdict with
                | .pending => 0#8 | .fair => 1#8 | .falseStart => 2#8 | .noStart => 3#8 | .unsure => 4#8 | .void => 5#8),
              BitVec.ofBool x.flags.sat ++ BitVec.ofBool x.flags.rtSat ++ BitVec.ofBool x.flags.unsteady ++ BitVec.ofBool x.flags.link
                ++ BitVec.ofBool x.flags.stale ++ BitVec.ofBool x.flags.bounded ++ BitVec.ofBool x.flags.shortBase
                ++ BitVec.ofBool x.flags.early,
              0#4 ++ (match x.decision with | none => 0#2 | some .upheld => 1#2 | some .annulled => 2#2)
                ++ BitVec.ofBool x.onset.isSome ++ BitVec.ofBool x.rt.isSome]
            ++ beInt16 (x.rt.getD 0) ++ be32 (x.onset.getD 0) ++ beInt16 x.b ++ beInt16 x.n ++ beInt16 x.theta

/-- RECALL (R148, R12, R13, R15): in RUNNING, or in IDLE with the newest record DECIDED, the recall pulse time is recorded when absent, with
its change notice, and a manual pulse of the length in force runs from now whether or not one was running, with RECALL_SENT. Otherwise it is
refused with STATE. -/
def Obligations.RecallRequestPulses : Prop :=
  (∀ (s : State) (r : Request) (rec : Record), Serves s r → r.payload = [] → HistoryInv s →
    (openRecord s = some rec ∧ rec.state = .running) ∨ (openRecord s = none ∧ s.seq.history.getLast? = some rec ∧ rec.state = .decided) →
    exec (.recallRequest r) s = .next
      { s with
        seq := { s.seq with history := s.seq.history.map fun x =>
          if x.id = rec.id then { x with recallPulse := some (x.recallPulse.getD s.clock) } else x },
        reservation := if rec.recallPulse = none ∧ s.reservation = some rec.id then none else s.reservation,
        driver := .pulsing (tadd s.clock s.line.pulseLength),
        events := arrive s.line.attnMode { kind := .recallSent, time := s.clock, lane := none, attempt := rec.id, value := 2 } s.events,
        host := answered s r 0x28 .ok [] })
  ∧ ∀ (s : State) (r : Request), Serves s r → r.payload = [] →
      lineState s = .marks ∨ lineState s = .set ∨ (lineState s = .idle ∧ ∀ rec, s.seq.history.getLast? = some rec → rec.state ≠ .decided) →
      exec (.recallRequest r) s = .next { s with host := answered s r 0x28 .state [] }

/-- TRACE (R159 to R163, R165, R67): a lane outside 1 to 10, a count outside 1 to 28 and a first position above 2047 are refused with
BAD_VALUE, an unfrozen ring answers NOT_FROZEN, and a first position at or past the ring's count is BAD_VALUE but for 0 of an empty ring.
Accepted, it returns the entries from the first position on, oldest first, at most the count asked for, an entry whose check fails with the
BAD mark alone; CHECK_FAULT is placed for each failed entry read, in ascending position: every entry held when T0 is present, else those
returned; and nothing else changes but the reply.
The shot position (R162): among the entries held whose check agrees, none is nearer T0, and none equally near stands before it.
Of equally near entries on one side of T0 the older is the model's reading (entry 18), that every entry is read when T0 is present though no
check agrees its choice (entry 22), and whether a check agrees is held as a mark (entry 6). -/
def Obligations.TraceReturnsEntries : Prop :=
  (∀ (s : State) (r : Request) (a fh fl n : Byte), Serves s r → r.payload = [a, fh, fl, n] →
    a.toNat = 0 ∨ 10 < a.toNat ∨ n.toNat = 0 ∨ 28 < n.toNat ∨ 2047 < (fh ++ fl).toNat →
    exec (.trace r) s = .next { s with host := answered s r 0x32 .badValue [] })
  ∧ (∀ (s : State) (r : Request) (a fh fl n : Byte) (l : LaneIx), Serves s r → r.payload = [a, fh, fl, n] → a.toNat = l.val + 1 →
    1 ≤ n.toNat → n.toNat ≤ 28 → (fh ++ fl).toNat ≤ 2047 →
    ((s.ring l).frozenBy = none → exec (.trace r) s = .next { s with host := answered s r 0x32 .notFrozen [] })
    ∧ ∀ (id : Nat) (index : Nat → Nat) (t0 : Option Time), (s.ring l).frozenBy = some id → (s.ring l).Ok →
        (∀ p, index p = ((s.ring l).writeIndex + 2048 - (s.ring l).count + p) % 2048) → t0 = (recordOf s id).bind Record.t0 →
        ((s.ring l).count ≤ (fh ++ fl).toNat → ¬ ((s.ring l).count = 0 ∧ (fh ++ fl).toNat = 0) →
          exec (.trace r) s = .next { s with host := answered s r 0x32 .badValue [] })
        ∧ ((fh ++ fl).toNat < (s.ring l).count ∨ ((s.ring l).count = 0 ∧ (fh ++ fl).toNat = 0) →
          ∃ entries : List Slot, exec (.trace r) s = .next
              { s with
                events := (((if t0.isSome then List.range (s.ring l).count
                             else (List.range entries.length).map ((fh ++ fl).toNat + ·)).filter
                    fun p => (s.ring l).slots[index p]?.any fun w => !w.intact).foldl
                  (fun q p => arrive s.line.attnMode
                    { kind := .checkFault, time := s.clock, lane := some l, attempt := id, value := BitVec.ofNat 32 (index p) } q) s.events),
                host := answered s r 0x32 .ok
                  (a :: (be16 id ++ be16 (s.ring l).count ++ be16 ((shotPosition t0 (s.ring l).held).getD 0xFFFF)
                    ++ [fh, fl] ++ [BitVec.ofNat 8 entries.length] ++ entries.flatMap slotBytes)) }
            ∧ entries.length = min n.toNat ((s.ring l).count - (fh ++ fl).toNat)
            ∧ ∀ i (hi : i < entries.length), (s.ring l).slots[index ((fh ++ fl).toNat + i)]? = some entries[i]))
  ∧ (∀ (t0 : Time) (held : List (Nat × Slot)),
    shotPosition none held = none ∧ (shotPosition (some t0) held = none ↔ ∀ w ∈ held, w.2.intact = false)
    ∧ ∀ p, shotPosition (some t0) held = some p →
        ∃ hp : p < held.length, (held[p]).2.intact = true
          ∧ ∀ q (hq : q < held.length), (held[q]).2.intact = true →
              (tdiff (held[p]).2.entry.time t0).natAbs ≤ (tdiff (held[q]).2.entry.time t0).natAbs
              ∧ ((tdiff (held[q]).2.entry.time t0).natAbs = (tdiff (held[p]).2.entry.time t0).natAbs → p ≤ q))
  ∧ ∀ w : Slot, (w.intact = false → slotBytes w = [0#8, 0#8, 0#8, 0#8, 0#8, 0#8, 0x10#8])
      ∧ (w.intact = true → slotBytes w = be32 w.entry.time ++ beInt16 w.entry.force
          ++ [0#4 ++ BitVec.ofBool w.entry.ovl ++ BitVec.ofBool w.entry.sat ++ BitVec.ofBool w.entry.gap ++ BitVec.ofBool w.entry.stale])

/-! ### Requests: the store, RESTART, replies, the receiver -/

/-- STORE_SAVE (R194, R195): accepted with the line IDLE, no ZERO in flight and the store not SAVING; the image of the tables is built, and
the first write, the byte that breaks the old end marker when its offset is known, else page 0, is sent with a deadline 200 ticks on.
Otherwise it is refused with BUSY.
SAVE_WRITE_TAKEN, SAVE_WRITE_STORED and SAVE_ACKNOWLEDGE_DEADLINE (R195): a write taken restarts the deadline; a write stored sends the
next one, the marker offset set before the last page, or completes the save with STORE_DONE; the deadline fails it with STORE_FAIL and the
offset reached.
The transactions of a save (R189, R195): before the deadline, the write in hand until it is taken, then an address transaction, one at each
tick from the next on; a write sends the device address, the two bytes of its offset and its data.
That no transaction is made at the tick of the deadline is the model's reading (entry 11), and the device address as one byte 0x50 its choice
(entry 23). -/
def Obligations.SaveStartsAndRuns : Prop :=
  (∀ (s : State) (r : Request), Serves s r → r.payload = [] →
    (lineState s ≠ .idle ∨ (∃ l, s.zero l ≠ none) ∨ s.store.state = .saving →
      exec (.storeSave r) s = .next { s with host := answered s r 0x38 .busy [] })
    ∧ (lineState s = .idle → (∀ l, s.zero l = none) → s.store.state ≠ .saving →
      exec (.storeSave r) s = .next
        { s with
          store := { state := .saving, markerOffset := s.store.markerOffset,
                     job := .saving { image := saveImage s, nextOffset := 0, breaking := s.store.markerOffset, taken := false },
                     deadline := some (s.clock + 200#32), busUsed := false },
          host := answered s r 0x38 .ok [] }))
  ∧ (∀ (s : State) (run : SaveRun) (d : Time), s.resetHeld = false → s.store.job = .saving run → s.store.deadline = some d →
    (run.taken = false → isBefore s.clock d = true → exec .saveWriteTaken s = .next
      { s with store := { s.store with job := .saving { run with taken := true }, deadline := some (s.clock + 200#32), busUsed := true } })
    ∧ (run.taken = true → isBefore s.clock d = true → s.store.busUsed = false →
      (∀ m, run.breaking = some m → 16 < run.image.length → exec .saveWriteStored s = .next
        { s with store := { s.store with job := .saving { run with nextOffset := 0, breaking := none, taken := false },
                                         deadline := some (s.clock + 200#32) } })
      ∧ (run.breaking = none → run.nextOffset + 16 < run.image.length → exec .saveWriteStored s = .next
        { s with store := { s.store with
            job := .saving { run with nextOffset := run.nextOffset + 16, taken := false },
            deadline := some (s.clock + 200#32),
            markerOffset := if run.image.length ≤ run.nextOffset + 32 then some (run.image.length - 4) else s.store.markerOffset } })
      ∧ (run.breaking = none → run.image.length ≤ run.nextOffset + 16 → exec .saveWriteStored s = .next
        { s with
          store := { s.store with state := .loaded, job := .idle, deadline := none, busUsed := false },
          events := arrive s.line.attnMode
            { kind := .storeDone, time := s.clock, lane := none, attempt := 0, value := BitVec.ofNat 32 run.image.length } s.events }))
    ∧ (d = s.clock → exec .saveAcknowledgeDeadline s = .next
      { s with
        store := { s.store with state := .saveFailed, job := .idle, deadline := none, busUsed := false },
        events := arrive s.line.attnMode
          { kind := .storeFail, time := s.clock, lane := none, attempt := 0,
            value := if run.breaking = none then BitVec.ofNat 32 run.nextOffset else 0#32 } s.events })
    ∧ (isBefore s.clock d = false → currentTransaction s = none)
    ∧ (isBefore s.clock d = true → run.taken = false → currentTransaction s = some (match run.breaking with
        | some m => .write m [0x00#8]
        | none => .write run.nextOffset ((run.image.drop run.nextOffset).take 16)))
    ∧ (isBefore s.clock d = true → run.taken = true →
        currentTransaction s = if s.store.busUsed then none else some .address))
  ∧ (∀ (o : Nat) (data : List Byte),
      (Transaction.write o data).sent = [0x50#8, BitVec.ofNat 8 (o / 256), BitVec.ofNat 8 o] ++ data)
  ∧ ∀ s : State, s.store.job = .idle → currentTransaction s = none

/-- RESTART and the life of a reply (R196, R176 to R178): an accepted RESTART answers OK and resets the part when its reply has been sent
or abandoned, by its 2 ms or by a new request once that has been served, or at once when it is broadcast; a waiting reply begins to be sent
when the receiver is in HUNT and not before, and a reply sent, or abandoned when its 2 ms end and not before, leaves the transmitter IDLE.
The straps that RESTART reads, the moments of a reply finer than a tick, and 2 ms as 20 ticks, are the model's reading (entries 8, 14 and
20). -/
def Obligations.RestartAndReplies : Prop :=
  (∀ (s : State) (r : Request), Serves s r → r.payload = [] →
    exec (.restart r) s = .next { s with host := { answered s r 0x39 .ok [] with restartPending := true } })
  ∧ (∀ (s : State) (r : Request), s.resetHeld = false → s.host.rx = .hunt → deAsserted s = false → r.address = 31#8 → r.payload = [] →
    s.store.state ≠ .loading → exec (.restart r) s = .next (State.afterReset s.pins false s.pending))
  ∧ (∀ (s : State) (rep : Reply) (limit : Time), s.resetHeld = false → s.host.tx = .waiting rep limit →
    (s.host.rx = .hunt → exec .replyStart s = .next { s with host := { s.host with tx := .sending rep } })
    ∧ (s.host.rx ≠ .hunt → exec .replyStart s = .next s)
    ∧ (limit ≠ s.clock → exec .replyAbandoned2ms s = .next s)
    ∧ (limit = s.clock → s.host.restartPending = false →
        exec .replyAbandoned2ms s = .next { s with host := { s.host with tx := .idle } })
    ∧ (limit = s.clock → s.host.restartPending = true → exec .replyAbandoned2ms s = .next (State.afterReset s.pins false s.pending)))
  ∧ (∀ (c : Instr) (code : Byte) (r : Request) (s : State) (rep : Reply) (limit : Time), requestOf c = some (code, r) →
    s.resetHeld = false → s.host.rx = .hunt → s.host.tx = .waiting rep limit → s.host.restartPending = true →
    s.host.address = some r.address.toNat ∨ r.address = 31#8 → r.payload.length ≤ 200 →
    exec c s = .next (State.afterReset s.pins false s.pending))
  ∧ (∀ (s : State) (rep : Reply), s.resetHeld = false → s.host.tx = .sending rep →
    (s.host.restartPending = false → exec .replySent s = .next { s with host := { s.host with tx := .idle } })
    ∧ (s.host.restartPending = true → exec .replySent s = .next (State.afterReset s.pins false s.pending)))
  ∧ ∀ now : Time, replyLimit now = now + 20#32

/-- A broadcast request other than RESTART has the effect that the same request addressed to this station has, but that no reply waits
(R174, R178). A station whose address is in fault takes it too: a request that the common refusals let pass has its owner's effect there, and
one that they refuse changes nothing. -/
def Obligations.BroadcastActsWithoutReply : Prop :=
  (∀ (c d : Instr) (code : Byte) (r : Request) (s t : State), requestOf c = some (code, r) →
    requestOf d = some (code, { r with address := 31#8 }) → Takes s r → r.payload.length ≤ 200 → code ≠ 0x39#8 →
    exec c s = .next t → exec d s = .next { t with host := { t.host with tx := .idle } })
  ∧ ∀ (d : Instr) (code : Byte) (r : Request) (s : State), requestOf d = some (code, r) → r.address = 31#8 → s.resetHeld = false →
    s.host.rx = .hunt → s.host.address = none → s.host.tx = .idle → s.host.restartPending = false → r.payload.length ≤ 200 →
    (kindOfCode code = none → exec d s = .next s)
    ∧ ∀ k, kindOfCode code = some k → k ≠ .restart →
      (r.payload.length ≠ k.length ∨ (s.store.state = .loading ∧ k ≠ .status) → exec d s = .next s)
      ∧ (r.payload.length = k.length → s.store.state ≠ .loading ∨ k = .status → exec d s = .next (serveKind k r.payload s).state)

/-- A request for another station, whether its command is that of its kind or MUTED_FRAME with its bytes, changes nothing; nor does such a
frame cut off after its address byte and followed by quiet (R170, R171).
The rows carry bytes by the model's choice (entry 17). -/
def Obligations.OtherStationsFramesMuted : Prop :=
  ∀ (c : Instr) (code : Byte) (r : Request) (quiet : Bool) (s : State), requestOf c = some (code, r) → s.resetHeld = false →
    s.host.rx = .hunt → deAsserted s = false → r.address ≠ 31#8 → s.host.address ≠ some r.address.toNat → r.payload.length ≤ 200 →
    exec c s = .next s
    ∧ exec (.mutedFrame ((requestBytes code r).map hostByteOf) quiet) s = .next s
    ∧ ∀ n, 2 ≤ n → exec (.mutedFrame (((requestBytes code r).take n).map hostByteOf) true) s = .next s

/-- The receiver, byte by byte, does with the bytes of a request frame what the request's command does, in every state (R168, R169, R170,
R171, R173).
The rows carry bytes by the model's choice (entry 17). -/
def Obligations.FrameBytesAreRequest : Prop :=
  ∀ (c : Instr) (code : Byte) (r : Request) (s : State), requestOf c = some (code, r) → r.payload.length ≤ 200 →
    exec (.requestFrameDropped ((requestBytes code r).map hostByteOf)) s = exec c s

/-- Frames lost by this station (R170): a wrong CRC, and a length byte above 200, count one CRC error; a byte with a parity or framing error
counts one parity error; a frame cut off and followed by quiet counts one timeout. Nothing else changes. A byte whose start bit fell while DE
was asserted is not taken and not counted, whatever the receiver has before and after it, nor is a byte that ends in SENDING (R167).
The rows carry bytes by the model's choice (entry 17), and a byte begun before DE is asserted that ends in SENDING is not taken by its reading
(entry 25). -/
def Obligations.DamagedFramesCounted : Prop :=
  (∀ (code : Byte) (r : Request) (s : State), s.resetHeld = false → s.host.rx = .hunt → deAsserted s = false →
    addressed s r.address = true → r.payload.length ≤ 200 →
    (∀ c0 c1 : Byte, [c0, c1] ≠ (requestBytes code r).drop (5 + r.payload.length) →
      exec (.requestFrameDropped (((requestBytes code r).take (5 + r.payload.length) ++ [c0, c1]).map hostByteOf)) s = .next
        { s with host := { s.host with crcCount := min (s.host.crcCount + 1) 65535 } })
    ∧ (∀ len : Byte, 200 < len.toNat →
      exec (.requestFrameDropped (((requestBytes code r).take 4 ++ [len]).map hostByteOf)) s = .next
        { s with host := { s.host with crcCount := min (s.host.crcCount + 1) 65535 } })
    ∧ (∀ (n : Nat) (b : HostByte), 1 ≤ n → n < (requestBytes code r).length → b.underDe = false → hostError b.toRxByte = true →
      exec (.requestFrameDropped (((requestBytes code r).take n).map hostByteOf ++ [b])) s = .next
        { s with host := { s.host with parityCount := min (s.host.parityCount + 1) 65535 } })
    ∧ ∀ n : Nat, 1 ≤ n → n < (requestBytes code r).length →
      exec (.frameTimeout (((requestBytes code r).take n).map hostByteOf)) s = .next
        { s with host := { s.host with timeoutCount := min (s.host.timeoutCount + 1) 65535 } })
  ∧ (∀ (bytes : List HostByte) (quiet : Bool) (s : State),
      exec (.requestFrameDropped bytes) s = exec (.requestFrameDropped (bytes.filter fun b => !b.underDe)) s
      ∧ exec (.frameTimeout bytes) s = exec (.frameTimeout (bytes.filter fun b => !b.underDe)) s
      ∧ exec (.mutedFrame bytes quiet) s = exec (.mutedFrame (bytes.filter fun b => !b.underDe) quiet) s)
  ∧ ∀ (bytes : List HostByte) (s : State), (∃ rep, s.host.tx = .sending rep) ∨ (∀ b ∈ bytes, b.underDe = true) →
      exec (.requestFrameDropped bytes) s = .next s

/-! ### The pistol -/

/-- PISTOL_EDGE, GLITCH and PISTOL_HOLD_END (R5, R7, R8, R92, R109, R110): an edge starts qualification and sets the hold mark of every
detector of the open record that is at work; a glitch is counted, reported and clears the marks, and a detector held in WATCHING resumes the
unsteady test from a run of 0; 500 inactive samples end the hold.
That the sample of a tick waits for its command is the model's choice (entry 5). -/
def Obligations.PistolQualification : Prop :=
  (∀ s : State, s.resetHeld = false → s.pistol.unit = .quiet → s.pistol.prev = some false → s.pistol.sample = some true →
    exec .pistolEdge s = .next
      { s with
        pistol := { s.pistol with unit := .qualifying s.clock (tadd s.clock s.line.qualify), prev := some true, sample := none },
        detectors := Vector.ofFn fun l =>
          if l ∈ openLanes s then
            match (s.detector l).state with
            | .off | .done => s.detector l
            | .watching => { s.detector l with hold := true, unsteadyRun := 0 }
            | .settling | .capture | .crossing => { s.detector l with hold := true }
          else s.detector l })
  ∧ (∀ (s : State) (te qe : Time), s.resetHeld = false → s.pistol.unit = .qualifying te qe → s.pistol.sample = some false →
    exec .glitch s = .next
      { s with
        pistol := { s.pistol with unit := .quiet, prev := some false, sample := none,
                                  glitchCount := min (s.pistol.glitchCount + 1) 65535 },
        seq := { s.seq with earlyEdge := false },
        detectors := Vector.ofFn fun l =>
          if l ∈ openLanes s then
            { s.detector l with
              hold := false,
              unsteadyRun := if (s.detector l).hold = true ∧ (s.detector l).state = .watching then 0 else (s.detector l).unsteadyRun }
          else s.detector l,
        events := arrive s.line.attnMode
          { kind := .glitch, time := s.clock, lane := none, attempt := openId s,
            value := BitVec.ofNat 32 (min (s.pistol.glitchCount + 1) 65535) } s.events })
  ∧ ∀ s : State, s.resetHeld = false → s.pistol.unit = .held → s.pistol.quietRun = 500 →
    exec .pistolHoldEnd s = .next { s with pistol := { s.pistol with unit := .quiet, quietRun := 0 } }

/-- SHOT_ACCEPTED, an unarmed shot (R6, R95): the unit is HELD, UNARMED_SHOT carries the line state, and no record or detector changes.
SHOT_ACCEPTED, a recall shot (R94): in RUNNING, or once within the span of the newest DECIDED record, its edge time is recorded when the
record has none, with the change notice, and RECALL_SHOT carries its distance from T0.
That the sample of a tick waits for its command is the model's choice (entry 5). -/
def Obligations.ShotOutsideStart : Prop :=
  (∀ (s : State) (te : Time), s.resetHeld = false → s.pistol.unit = .qualifying te s.clock → s.pistol.sample = some true →
    lineState s = .marks ∨ (lineState s = .set ∧ s.seq.earlyEdge = true)
      ∨ (openRecord s = none ∧ ∀ rec, s.seq.history.getLast? = some rec →
          rec.state ≠ .decided ∨ s.seq.recallShotEnd = none ∨ rec.recallShot ≠ none
            ∨ ∀ t0, rec.t0 = some t0 → tdiff te t0 < 1 ∨ 30000 < tdiff te t0) →
    exec .shotAccepted s = .next
      { s with
        pistol := { s.pistol with unit := .held, prev := some true, sample := none, quietRun := 0 },
        seq := { s.seq with earlyEdge := false },
        events := arrive s.line.attnMode
          { kind := .unarmedShot, time := s.clock, lane := none, attempt := openId s,
            value := match lineState s with | .idle => 0#32 | .marks => 1#32 | .set => 2#32 | .running => 3#32 } s.events })
  ∧ (∀ (s : State) (te t0 : Time) (rec : Record), s.resetHeld = false → s.pistol.unit = .qualifying te s.clock →
    s.pistol.sample = some true → HistoryInv s → rec.t0 = some t0 →
    (openRecord s = some rec ∧ rec.state = .running)
      ∨ (openRecord s = none ∧ s.seq.history.getLast? = some rec ∧ rec.state = .decided ∧ s.seq.recallShotEnd ≠ none
          ∧ 1 ≤ tdiff te t0 ∧ tdiff te t0 ≤ 30000 ∧ rec.recallShot = none) →
    exec .shotAccepted s = .next
      { s with
        pistol := { s.pistol with unit := .held, prev := some true, sample := none, quietRun := 0 },
        seq := { s.seq with
          history := s.seq.history.map fun x =>
            if x.id = rec.id then { x with recallShot := some (x.recallShot.getD te) } else x,
          earlyEdge := false },
        reservation := if rec.recallShot = none ∧ s.reservation = some rec.id then none else s.reservation,
        events := arrive s.line.attnMode
          { kind := .recallShot, time := s.clock, lane := none, attempt := rec.id, value := te - t0 } s.events })

/-- SHOT_ACCEPTED, the start (R93, R111, R122, R125, R140, R145 to R147): in SET with the early edge mark clear, T0 is the edge time, the record
is RUNNING, the window runs from T0, SHOT is placed, and every detector of the record knows the shot. A lane still settling or with fewer than
16 capture samples is UNSURE with SHORT_BASE, and a lane without a stream UNSURE; a lane with 16 to 63 capture samples is finalized with them
and watched, with SHORT_BASE; a held crossing is judged against the reaction limit, its reaction time saturated with RT_SAT, or -32 768 for a
long-held one not before T0; and a lane so judged FALSE has its FALSE_START, its lamp, and the recall, which is pulsed once however many
lanes are FALSE, and not at all with automatic recall off or a recall pulse time present.
That the sample of a tick waits for its command is the model's choice (entry 5). -/
def Obligations.ShotStartsAttempt : Prop :=
  ∀ (s : State) (te : Time) (rec : Record), s.resetHeld = false → s.pistol.unit = .qualifying te s.clock →
    s.pistol.sample = some true → HistoryInv s → openRecord s = some rec → rec.state = .set → s.seq.earlyEdge = false →
    ∃ t rec', exec .shotAccepted s = .next t ∧ recordOf t rec.id = some rec' ∧ rec'.state = .running ∧ rec'.t0 = some te
      ∧ rec'.lanes = rec.lanes ∧ t.pistol.unit = .held ∧ t.seq.settleEnd = none
      ∧ t.seq.windowEnd = some (tadd te s.line.window)
      ∧ (s.events.list.length < 32 → t.events.list[s.events.list.length]? =
          some { kind := .shot, time := s.clock, lane := none, attempt := rec.id, value := te })
      ∧ (∀ l, l ∉ rec.lanes → t.detector l = s.detector l)
      ∧ (∀ l ∈ rec.lanes, (t.detector l).hold = false ∧ (t.detector l).shotTime = some te
          ∧ ((s.detector l).state = .done → (t.detector l).held = none))
      ∧ (∀ l x, rec.result l = some x → x.verdict = .pending → ∃ y, rec'.result l = some y
          ∧ ((s.detector l).state = .settling ∨ ((s.detector l).state = .capture ∧ (s.detector l).n < 16) →
              y = { x with verdict := .unsure, flags := x.flags.union { shortBase := true } } ∧ (t.detector l).state = .done)
          ∧ ((s.detector l).state = .off → (s.detector l).linkOut = true →
              y = { x with verdict := .unsure, flags := x.flags.union { link := true } } ∧ (t.detector l).state = .done)
          ∧ ((s.detector l).state = .watching ∨ (s.detector l).state = .crossing → y = x)
          ∧ ((s.detector l).state = .capture → 16 ≤ (s.detector l).n → (s.detector l).n ≤ 63 → ∃ b : Baseline,
              y = { x with b := b.b, n := b.n, theta := b.theta,
                           flags := x.flags.union { shortBase := true, sat := (s.detector l).quality } }
              ∧ t.detector l = { s.detector l with hold := false, shotTime := some te, baseline := some b, state := .watching,
                                                   unsteadyRun := 0, persistence := 0 }
              ∧ -((s.detector l).n : Int) ≤ 2 * (s.detector l).sum - 2 * (s.detector l).n * b.b
              ∧ 2 * (s.detector l).sum - 2 * (s.detector l).n * b.b < (s.detector l).n
              ∧ (∀ hi lo, (s.detector l).maximum = some hi → (s.detector l).minimum = some lo →
                  2 * b.n - 1 ≤ hi - lo ∧ hi - lo ≤ 2 * b.n)
              ∧ b.theta = min (b.b + max ((laneProfile s l).tAbs : Int) ((laneProfile s l).k * b.n)) 30000 ∧ b.l = b.b + b.n
              ∧ 2 * b.u ≤ 2 * b.n + (laneProfile s l).tAbs ∧ 2 * b.n + (laneProfile s l).tAbs < 2 * b.u + 2)
          ∧ ∀ c, (s.detector l).state = .done → (s.detector l).held = some c → ∃ (rt : Int) (rtSat early : Bool),
              y = { x with verdict := if rt < s.line.reactionLimit then .falseStart else .fair, onset := some c.onset, rt := some rt,
                           flags := x.flags.union
                             { early := early, rtSat := rtSat, bounded := c.bounded, stale := c.stale, sat := c.sat } }
              ∧ (tdiff c.onset te < -32768 ∨ ((s.detector l).longHeld = true ∧ 0 ≤ tdiff c.onset te) →
                  rt = -32768 ∧ rtSat = true ∧ early = true)
              ∧ ((s.detector l).longHeld = false → 32767 < tdiff c.onset te → rt = 32767 ∧ rtSat = true ∧ early = false)
              ∧ ((s.detector l).longHeld = false ∨ tdiff c.onset te < 0 → -32768 ≤ tdiff c.onset te → tdiff c.onset te ≤ 32767 →
                  rt = tdiff c.onset te ∧ rtSat = false ∧ early = decide (tdiff c.onset te < 0))
              ∧ (rt < s.line.reactionLimit → l ∈ rec'.falseList
                ∧ (FalseListInv s → t.events.list.length < 32 →
                    { kind := .falseStart, time := s.clock, lane := some l, attempt := rec.id,
                      value := BitVec.ofInt 16 rt ++ BitVec.ofNat 16
                        ((rec'.falseList.filter fun k => decide (k ∈ rec.falseList) || decide (k ≤ l)).idxOf l + 1) } ∈ t.events.list)
                ∧ (∀ p, (s.lane l).port = some p → (s.port p).link = .streaming → (s.lane l).lampEnable = true → (t.port p).lamp = true)
                ∧ (s.line.autoRecall = true → rec.recallPulse = none →
                    t.driver = .pulsing (tadd s.clock s.line.pulseLength) ∧ rec'.recallPulse = some s.clock
                    ∧ (t.events.list.length < 32 →
                        { kind := .recallSent, time := s.clock, lane := none, attempt := rec.id, value := 1#32 } ∈ t.events.list))))
      ∧ (∃ placed, t.events.list = s.events.list ++ placed ∧ (placed.filter fun e => e.kind = .recallSent).length ≤ 1
          ∧ (s.line.autoRecall = false ∨ rec.recallPulse ≠ none ∨ rec'.falseList = rec.falseList →
              (∀ e ∈ placed, e.kind ≠ .recallSent) ∧ t.driver = s.driver ∧ rec'.recallPulse = rec.recallPulse))
      ∧ t.rings = s.rings ∧ t.laneMap = s.laneMap ∧ t.line = s.line ∧ t.zeros = s.zeros ∧ t.assemblers = s.assemblers
      ∧ t.store = s.store ∧ t.host = s.host

/-! ### Timers of the attempt, of the pulses and of the held crossing -/

/-- RECALL_PULSE_END, RECALL_SHOT_END_EXPIRY, HELD_AGE_END_EXPIRY and SETTLE_END_EXPIRY at their end times (R14, R81, R124, R91); and in
either order of a pulse request and the expiry at one tick, one pulse of the length in force runs from now (R14). -/
def Obligations.TimersExpire : Prop :=
  (∀ s : State, s.resetHeld = false → s.driver = .pulsing s.clock → exec .recallPulseEnd s = .next { s with driver := .idle })
  ∧ (∀ (s : State) (manual : Bool) (id : Nat), s.driver = .pulsing s.clock → 1 ≤ s.line.pulseLength → s.line.pulseLength ≤ 10000 →
      pulseRequest manual id (recallPulseEndStep s) = recallPulseEndStep (pulseRequest manual id s)
      ∧ (pulseRequest manual id s).driver = .pulsing (tadd s.clock s.line.pulseLength))
  ∧ (∀ s : State, s.resetHeld = false → s.seq.recallShotEnd = some s.clock →
      exec .recallShotEndExpiry s = .next { s with seq := { s.seq with recallShotEnd := none } })
  ∧ (∀ (s : State) (l : LaneIx), s.resetHeld = false → (s.detector l).heldAgeEnd = some s.clock →
      exec (.heldAgeEndExpiry l) s = .next { s with detectors := s.detectors.set l { s.detectors[l] with longHeld := true } })
  ∧ ∀ s : State, s.resetHeld = false → s.seq.settleEnd = some s.clock →
      exec .settleEndExpiry s = .next
        { s with
          seq := { s.seq with settleEnd := none },
          detectors := Vector.ofFn fun l =>
            if l ∈ openLanes s ∧ (s.detector l).state = .settling then { s.detector l with state := .capture } else s.detector l }

/-- WINDOW_CLOSE_EXPIRY (R97, R129, R144): the record is DECIDED with its window close time, every PENDING lane whose detector is not DONE
is NO_START and every judged lane keeps its verdict, the rings are frozen with the record's id, the detectors are DONE, the recall-shot
end is T0 + 30 101, and DECIDED with the length of the list is the newest event. -/
def Obligations.WindowCloses : Prop :=
  ∀ (s : State) (rec : Record) (t0 : Time), s.resetHeld = false → s.seq.windowEnd = some s.clock → openRecord s = some rec →
    rec.state = .running → rec.t0 = some t0 → HistoryInv s →
    ∃ t rec', exec .windowCloseExpiry s = .next t ∧ recordOf t rec.id = some rec' ∧ rec'.state = .decided
      ∧ rec'.windowClose = some s.clock ∧ rec'.t0 = rec.t0 ∧ rec'.falseList = rec.falseList ∧ lineState t = .idle
      ∧ rec'.results = (rec.results.map fun x =>
          if x.verdict = .pending ∧ (s.detector x.lane).state ≠ .done then { x with verdict := .noStart } else x)
      ∧ (∀ l, t.ring l = if l ∈ rec.lanes then { s.ring l with frozenBy := some rec.id } else s.ring l)
      ∧ (∀ l ∈ rec.lanes, (t.detector l).state = .done ∧ (t.detector l).attempt = none ∧ (t.detector l).hold = false)
      ∧ (∀ l, l ∉ rec.lanes → t.detector l = s.detector l)
      ∧ (∀ id, id ≠ rec.id → recordOf t id = recordOf s id)
      ∧ t.seq.windowEnd = none ∧ t.seq.setTime = none ∧ t.seq.recallShotEnd = some (t0 + 30101#32)
      ∧ (s.reservation = some rec.id → t.reservation = none)
      ∧ t.events = arrive s.line.attnMode
          { kind := .decided, time := s.clock, lane := none, attempt := rec.id, value := BitVec.ofNat 32 rec.falseList.length } s.events
      ∧ t.ports = s.ports ∧ t.driver = s.driver ∧ t.zeros = s.zeros ∧ t.assemblers = s.assemblers ∧ t.pistol = s.pistol
      ∧ t.host = s.host ∧ t.store = s.store

/-! ### The lane links -/

/-- SAMPLE_FRAME in STREAMING (R22, R24, R25, R32, R57, R59): the marks of a valid frame are set, the channel's sequence is tracked with a jump
counted, and on a mapped port the sample enters the lane's buffer; a sample on a channel outside the commit set commits nothing, nor does one
that finds a summation channel without a value (R59). -/
def Obligations.SampleUpdatesBuffer : Prop :=
  ∀ (s : State) (p : PortIx) (c : Chan) (sq : BitVec 4) (v : BitVec 16) (ovl jump : Bool) (y : Port), s.resetHeld = false →
    (s.port p).link = .streaming → (s.port p).inbound = inboundEmpty →
    (s.port p).brk ≠ .waits → (∀ e, (s.port p).brk = .low e → isBefore s.clock e = false) →
    (jump = true ↔ ∃ n, (s.port p).expected[c] = some n ∧ n ≠ sq) →
    y = { s.port p with consecutiveBad := 0, lastValid := some s.clock, silenceEnd := some (s.clock + 200#32),
                        expected := (s.port p).expected.set c (some (sq + 1)),
                        jumpCount := if jump then min ((s.port p).jumpCount + 1) 65535 else (s.port p).jumpCount } →
    (mappedLane s p = none →
      exec (.sampleFrame p (linkRxOf (sampleFields c sq v ovl))) s = .next { s with ports := s.ports.set p y })
    ∧ ∀ l, mappedLane s p = some l →
      (s.lane l).commitSet.getLsbD c.val = false
        ∨ (∃ k : Chan, k ≠ c ∧ (s.lane l).sumSet.getLsbD k.val = true ∧ (s.assembler l).raw[k] = none) →
      exec (.sampleFrame p (linkRxOf (sampleFields c sq v ovl))) s = .next
        { s with
          ports := s.ports.set p y,
          assemblers := s.assemblers.set l
            { raw := (s.assembler l).raw.set c (some v), fresh := (s.assembler l).fresh.set c true,
              overload := (s.assembler l).overload.set c ovl,
              gapPending := (s.assembler l).gapPending || (jump && ((s.lane l).sumSet.getLsbD c.val || (s.lane l).commitSet.getLsbD c.val)) } }

/-- SAMPLE_FRAME that commits (R59, R60, R62 to R64, R66): on a commit channel, with every summation channel holding a value, the entry has
the force and the flags of the buffer as it then stands, GAP exactly when the gap pending mark is set, the sample jumps, or the ring's newest
entry fails its check or is older than the gap limit; it goes to the ring, is offered with its ring index to the lane's detector, and then to
its ZERO, and the fresh marks and the gap pending mark are cleared. A detector that is OFF, SETTLING or DONE and a lane without a ZERO change
nothing more.
What the difference is for a newest entry 2^31 ticks old or older is the model's choice (entry 24). -/
def Obligations.SampleCommitsEntry : Prop :=
  (∀ (s : State) (p : PortIx) (l : LaneIx) (c : Chan) (sq : BitVec 4) (v : BitVec 16) (ovl jump : Bool) (a : Assembler) (y : Port),
    s.resetHeld = false → (s.port p).link = .streaming → (s.port p).inbound = inboundEmpty →
    (s.port p).brk ≠ .waits → (∀ e, (s.port p).brk = .low e → isBefore s.clock e = false) →
    mappedLane s p = some l → (s.lane l).commitSet.getLsbD c.val = true →
    (jump = true ↔ ∃ n, (s.port p).expected[c] = some n ∧ n ≠ sq) →
    y = { s.port p with consecutiveBad := 0, lastValid := some s.clock, silenceEnd := some (s.clock + 200#32),
                        expected := (s.port p).expected.set c (some (sq + 1)),
                        jumpCount := if jump then min ((s.port p).jumpCount + 1) 65535 else (s.port p).jumpCount } →
    a = { s.assembler l with raw := (s.assembler l).raw.set c (some v), fresh := (s.assembler l).fresh.set c true,
                             overload := (s.assembler l).overload.set c ovl,
                             gapPending := (s.assembler l).gapPending || jump } →
    (∀ k : Chan, (s.lane l).sumSet.getLsbD k.val = true → a.raw[k] ≠ none) →
    ∃ (e : Entry) (t : State),
      exec (.sampleFrame p (linkRxOf (sampleFields c sq v ovl))) s = .next
        { t with assemblers := s.assemblers.set l { a with fresh := Vector.replicate 4 false, gapPending := false } }
      ∧ t = zeroCommit l (offerEntry l e (if (s.ring l).frozenBy = none then some (s.ring l).writeIndex else none)
          { s with ports := s.ports.set p y, assemblers := s.assemblers.set l a, rings := s.rings.set l ((s.ring l).write e) })
      ∧ e.time = s.clock ∧ e.force = combinedForce (forceSum (s.lane l) a)
      ∧ (e.sat = true ↔ forceSum (s.lane l) a < -3000 ∨ 30000 < forceSum (s.lane l) a)
      ∧ (e.stale = true ↔ ∃ k : Chan, (s.lane l).sumSet.getLsbD k.val = true ∧ a.fresh[k] = false)
      ∧ (e.ovl = true ↔ ∃ k : Chan, (s.lane l).sumSet.getLsbD k.val = true ∧ a.overload[k] = true)
      ∧ (e.gap = true ↔ (s.assembler l).gapPending = true ∨ jump = true
          ∨ ∃ w, (s.ring l).newest = some w ∧ (w.intact = false
              ∨ ((match s.line.rate with | .hz1000 => 40 | .hz2000 => 20 | .hz2500 => 16 : Int)) < tdiff s.clock w.entry.time)))
  ∧ (∀ (s : State) (l : LaneIx) (e : Entry) (index : Option Nat),
      (s.detector l).state = .off ∨ (s.detector l).state = .settling ∨ (s.detector l).state = .done → offerEntry l e index s = s)
  ∧ ∀ (s : State) (l : LaneIx), s.zero l = none → zeroCommit l s = s

/-- HELLO in LINKING (R30, R35, R38, R40): outside LOADING the mode frame and stream-on are sent, the port is STREAMING with its mismatch
decided, and LINK_UP is placed, both frames waiting in the queue, as far as its 8 places reach, while another is being sent or the break is
still held at its end; during LOADING the hello is held pending. In STREAMING, a hello within 10 ticks sets the marks of a valid frame alone, and a later one loses the link as
silence does (R33, R34).
That a frame offered to an idle line is being sent at once is the model's reading (entry 12); that LINK_LOST comes before any other event of
the loss, and what the difference is on a link STREAMING for 2^31 ticks, are its choices (entries 9 and 24). -/
def Obligations.HelloBringsLinkUp : Prop :=
  ∀ (s : State) (p : PortIx) (n : BitVec 16) (y : Port), s.resetHeld = false → (s.port p).inbound = inboundEmpty →
    (s.port p).brk ≠ .waits → (∀ e, (s.port p).brk = .low e → isBefore s.clock e = false) →
    1 ≤ n.toNat → n.toNat ≤ 4 →
    y = { s.port p with consecutiveBad := 0, lastValid := some s.clock } →
    ((s.port p).link = .linking → s.store.state = .loading →
      exec (.hello p (linkRxOf (helloFields n))) s = .next
        { s with ports := s.ports.set p { y with capability := some n.toNat, helloPending := true } })
    ∧ ((s.port p).link = .linking → s.store.state ≠ .loading →
      ((s.port p).brk = .clear ∧ (s.port p).sending = none ∧ (s.port p).queue = [])
        ∨ (((s.port p).brk ≠ .clear ∨ (s.port p).sending ≠ none) ∧ (s.port p).queue.length ≤ 8) →
      ∃ mask mismatched, exec (.hello p (linkRxOf (helloFields n))) s = .next
        { s with
          ports := s.ports.set p
            { y with capability := some n.toNat, mismatched := mismatched, helloWaitEnd := none, streamingSince := some s.clock,
                     silenceEnd := some (s.clock + 200#32), link := .streaming,
                     sending := if (s.port p).brk = .clear then some ((s.port p).sending.getD (.mode s.line.rate mask)) else (s.port p).sending,
                     queue := if (s.port p).brk = .clear ∧ (s.port p).sending = none then [.streamOn]
                              else ((s.port p).queue ++ [OutFrame.mode s.line.rate mask, OutFrame.streamOn]).take 8 },
          events := arrive s.line.attnMode
            { kind := .linkUp, time := s.clock, lane := mappedLane s p, attempt := openId s, value := BitVec.ofNat 32 p.val } s.events }
        ∧ (mappedLane s p = none → mask = 0b1111#4 ∧ mismatched = false)
        ∧ ∀ l, mappedLane s p = some l → mask = (s.lane l).sumSet ||| (s.lane l).commitSet
            ∧ (mismatched = true ↔ ∃ c : Chan, n.toNat ≤ c.val ∧ mask.getLsbD c.val = true))
    ∧ (∀ since, (s.port p).link = .streaming → (s.port p).streamingSince = some since → tdiff s.clock since ≤ 10 →
      exec (.hello p (linkRxOf (helloFields n))) s = .next
        { s with ports := s.ports.set p { y with silenceEnd := some (s.clock + 200#32) } })
    ∧ ∀ since, (s.port p).link = .streaming → (s.port p).streamingSince = some since → 10 < tdiff s.clock since →
      exec (.hello p (linkRxOf (helloFields n))) s =
        exec (.silenceEndExpiry p) { s with ports := s.ports.set p { y with silenceEnd := some s.clock } }
      ∧ ∃ t, exec (.hello p (linkRxOf (helloFields n))) s = .next t ∧ (t.port p).link = .linking
        ∧ (t.port p).helloWaitEnd = some (s.clock + 5000#32) ∧ (t.port p).capability = none
        ∧ (s.events.list.length < 32 → t.events.list[s.events.list.length]? = some
            { kind := .linkLost, time := s.clock, lane := mappedLane s p, attempt := openId s, value := BitVec.ofNat 32 p.val })

/-- ALIVE and DISCARDED_STATUS_FRAME (R18, R23, R33, R200): an alive frame in STREAMING offers stream-on unless one waits, and the offer is
dropped while 8 frames wait; any other unassigned status, and a hello of 0 or more than 4 channels, sets the marks of a valid frame and
nothing else.
The rows carry bytes by the model's choice (entry 17), and that a frame offered to an idle line is being sent at once is its reading (entry
12). -/
def Obligations.StatusFramesTaken : Prop :=
  ∀ (s : State) (p : PortIx) (y : Port), s.resetHeld = false → (s.port p).inbound = inboundEmpty →
    (s.port p).brk ≠ .waits → (∀ e, (s.port p).brk = .low e → isBefore s.clock e = false) →
    (s.port p).link = .linking ∨ (s.port p).link = .streaming →
    y = { s.port p with consecutiveBad := 0, lastValid := some s.clock,
                        silenceEnd := if (s.port p).link = .streaming then some (s.clock + 200#32) else (s.port p).silenceEnd } →
    ((s.port p).link = .streaming → .streamOn ∉ (s.port p).queue →
      ((s.port p).brk = .clear → (s.port p).sending = none → (s.port p).queue = [] →
        exec (.alive p (linkRxOf aliveFields)) s = .next { s with ports := s.ports.set p { y with sending := some .streamOn } })
      ∧ ((s.port p).brk ≠ .clear ∨ (s.port p).sending ≠ none → (s.port p).queue.length < 8 →
        exec (.alive p (linkRxOf aliveFields)) s = .next
          { s with ports := s.ports.set p { y with queue := (s.port p).queue ++ [.streamOn] } })
      ∧ (8 ≤ (s.port p).queue.length →
        exec (.alive p (linkRxOf aliveFields)) s = .next { s with ports := s.ports.set p y }))
    ∧ ((s.port p).link = .linking ∨ .streamOn ∈ (s.port p).queue →
      exec (.alive p (linkRxOf aliveFields)) s = .next { s with ports := s.ports.set p y })
    ∧ ∀ f : LinkFields, f.status = true →
      f.selector = 2#2 ∨ f.selector = 3#2 ∨ (f.selector = 0#2 ∧ (f.value.toNat = 0 ∨ 4 < f.value.toNat)) →
      exec (.discardedStatusFrame p (linkRxOf f)) s = .next { s with ports := s.ports.set p y }

/-- BAD_FRAME (R21, R22, R32, section 2.3): a complete frame with a parity or framing error, or whose check does not agree, is counted once
and discarded, and so is a frame that a start byte cuts short, which begins the next frame; the eighth in a row in STREAMING loses the link
as silence does (R34); and a byte that continues no frame changes nothing. A frame whose start byte arrives before the break end, while the
break waits or is being sent or by the frame's own mark, is discarded uncounted when it ends, valid or not; cut short, it is not counted.
That LINK_LOST comes before any other event of the loss is the model's choice (entry 9), that the break ends at its tick its reading (entry 12). -/
def Obligations.BadFramesCounted : Prop :=
  (∀ (s : State) (p : PortIx) (b0 b1 b2 b3 : RxByte) (y : Port), s.resetHeld = false → (s.port p).inbound = inboundEmpty →
    (s.port p).brk ≠ .waits → (∀ e, (s.port p).brk = .low e → isBefore s.clock e = false) →
    (s.port p).link = .linking ∨ (s.port p).link = .streaming →
    b0.data.msb = true → b1.data.msb = false → b2.data.msb = false → b3.data.msb = false →
    y = { s.port p with
          consecutiveBad := min ((s.port p).consecutiveBad + 1) 255,
          parityCount := if [b0, b1, b2, b3].any linkError then min ((s.port p).parityCount + 1) 65535 else (s.port p).parityCount,
          checkCount := if [b0, b1, b2, b3].any linkError then (s.port p).checkCount else min ((s.port p).checkCount + 1) 65535 } →
    [b0, b1, b2, b3].any linkError = true ∨ linkCheckAgrees b0.data b1.data b2.data b3.data = false →
      ((s.port p).link = .linking ∨ (s.port p).consecutiveBad ≠ 7 →
        exec (.badFrame p { bytes := [b0, b1, b2, b3], early := false }) s = .next { s with ports := s.ports.set p y })
      ∧ ((s.port p).link = .streaming → (s.port p).consecutiveBad = 7 →
        exec (.badFrame p { bytes := [b0, b1, b2, b3], early := false }) s =
          exec (.silenceEndExpiry p) { s with ports := s.ports.set p { y with silenceEnd := some s.clock } }
        ∧ ∃ t, exec (.badFrame p { bytes := [b0, b1, b2, b3], early := false }) s = .next t ∧ (t.port p).link = .linking
          ∧ (t.port p).consecutiveBad = 0 ∧ (t.port p).parityCount = y.parityCount ∧ (t.port p).checkCount = y.checkCount
          ∧ (t.port p).helloWaitEnd = some (s.clock + 5000#32) ∧ LinkLossLeaves s p t))
  ∧ (∀ (s : State) (p : PortIx) (b0 b1 b2 b3 : RxByte) (early : Bool) (rx : LinkRx) (c : Instr), s.resetHeld = false →
    (s.port p).inbound = inboundEmpty → b0.data.msb = true → b1.data.msb = false → b2.data.msb = false → b3.data.msb = false →
    early = true ∨ (s.port p).brk = .waits ∨ (∃ e, (s.port p).brk = .low e ∧ isBefore s.clock e = true) →
    rx = { bytes := [b0, b1, b2, b3], early := early } →
    c = .sampleFrame p rx ∨ c = .hello p rx ∨ c = .alive p rx ∨ c = .discardedStatusFrame p rx ∨ c = .badFrame p rx →
    exec c s = .next s)
  ∧ (∀ (s : State) (p : PortIx) (b : RxByte) (early : Bool) (i j : Inbound) (y : Port), s.resetHeld = false →
    (s.port p).inbound = i → i.bytes ≠ [] → (s.port p).link = .linking ∨ (s.port p).link = .streaming → b.data.msb = true →
    (j.bytes = [b.data] ∧ j.error = linkError b
      ∧ (j.early = true ↔ early = true ∨ (s.port p).brk = .waits ∨ ∃ e, (s.port p).brk = .low e ∧ isBefore s.clock e = true)) →
    y = { s.port p with
          consecutiveBad := min ((s.port p).consecutiveBad + 1) 255,
          parityCount := if i.error then min ((s.port p).parityCount + 1) 65535 else (s.port p).parityCount,
          checkCount := if i.error then (s.port p).checkCount else min ((s.port p).checkCount + 1) 65535,
          inbound := j } →
    (i.early = true → exec (.badFrame p { bytes := [b], early := early }) s = .next
      { s with ports := s.ports.set p { s.port p with inbound := j } })
    ∧ (i.early = false → (s.port p).link = .linking ∨ (s.port p).consecutiveBad ≠ 7 →
      exec (.badFrame p { bytes := [b], early := early }) s = .next { s with ports := s.ports.set p y })
    ∧ (i.early = false → (s.port p).link = .streaming → (s.port p).consecutiveBad = 7 →
      ∃ t, exec (.silenceEndExpiry p) { s with ports := s.ports.set p { y with silenceEnd := some s.clock } } = .next t
        ∧ exec (.badFrame p { bytes := [b], early := early }) s = .next
          { t with ports := t.ports.set p { t.port p with inbound := { bytes := [b.data], error := linkError b, early := true } } }
        ∧ (t.port p).link = .linking ∧ (t.port p).consecutiveBad = 0 ∧ (t.port p).parityCount = y.parityCount
        ∧ (t.port p).checkCount = y.checkCount ∧ LinkLossLeaves s p t))
  ∧ ∀ (s : State) (p : PortIx) (bytes : List RxByte) (early : Bool), s.resetHeld = false → (s.port p).inbound = inboundEmpty →
    (∀ b ∈ bytes, b.data.msb = false) → exec (.badFrame p { bytes := bytes, early := early }) s = .next s

/-- SILENCE_END_EXPIRY (R32, R34, R28, R58, R77, R126, R138): LINK_LOST is placed, the port is LINKING again, its break waiting behind the frame
being sent and stream-off, the mapped lane's buffer is cleared, and its ZERO has ended with ZERO_FAIL, value 2. Of a lane that had a stream, a
detector at work before the shot is OFF with its link out, one OFF in its attempt or DONE with a held crossing has its link out, each with LINK
in the lane's result, and one that knows the shot is DONE with its lane UNSURE and LINK; an idle one stays as it is.
That LINK_LOST comes before any other event of the loss is the model's choice (entry 9), and that a frame offered to an idle line is being
sent at once its reading (entry 12). -/
def Obligations.SilenceLosesLink : Prop :=
  ∀ (s : State) (p : PortIx), s.resetHeld = false → (s.port p).link = .streaming → (s.port p).silenceEnd = some s.clock →
    ∃ t, exec (.silenceEndExpiry p) s = .next t
      ∧ (t.port p).link = .linking ∧ (t.port p).helloWaitEnd = some (s.clock + 5000#32) ∧ (t.port p).silenceEnd = none
      ∧ (t.port p).streamingSince = none ∧ (t.port p).capability = none ∧ (t.port p).mismatched = false ∧ (t.port p).lamp = false
      ∧ (∀ c : Chan, (t.port p).expected[c] = none) ∧ (t.port p).lastValid = (s.port p).lastValid
      ∧ (t.port p).presence = (s.port p).presence ∧ (t.port p).parityCount = (s.port p).parityCount
      ∧ (t.port p).checkCount = (s.port p).checkCount ∧ (t.port p).jumpCount = (s.port p).jumpCount
      ∧ (t.port p).brk = .waits ∧ (t.port p).sending = some ((s.port p).sending.getD .streamOff)
      ∧ (t.port p).queue = (if (s.port p).sending = none then [] else [.streamOff])
      ∧ LinkLossLeaves s p t

/-- PRESENCE_ACTIVE, HELLO_WAIT_END_EXPIRY and PRESENCE_INACTIVE (R26, R27, R28, R31): 20 differing readings change the debounced level; an
ABSENT port that gains a pod, and a LINKING port whose pod has not answered, make a link reset with a break; a port that loses its pod is
ABSENT, and when it was STREAMING it leaves LINK_LOST, the stream-ended notice with its effect on the lane's detector and result, the cleared
buffer and the failed ZERO as a silence does (R27, R36, R40, R58, R77, R126).
That LINK_LOST comes before any other event of the loss is the model's choice (entry 9), and the tick of the break end is its reading (entry
12). -/
def Obligations.PresenceAndHelloWait : Prop :=
  ∀ (s : State) (p : PortIx) (x y : Port), s.resetHeld = false → x = s.port p →
    y = { x with link := .linking, capability := none, mismatched := false, lamp := false, expected := Vector.replicate 4 none,
                 consecutiveBad := 0, inbound := inboundEmpty, helloPending := false, queue := [], silenceEnd := none,
                 streamingSince := none, helloWaitEnd := some (s.clock + 5000#32),
                 brk := if x.sending = none then .low (s.clock + 1#32) else .waits } →
    (∀ asm, asm = (match mappedLane s p with
        | some l => s.assemblers.set l { raw := Vector.replicate 4 none, fresh := Vector.replicate 4 false,
                                         overload := Vector.replicate 4 false, gapPending := true }
        | none => s.assemblers) →
      (x.link = .absent → x.presence = false → x.presenceRun = 20 →
        exec (.presenceActive p) s = .next
          { s with ports := s.ports.set p { y with presence := true, presenceRun := 0 }, assemblers := asm })
      ∧ (x.link = .linking → x.helloWaitEnd = some s.clock →
        exec (.helloWaitEndExpiry p) s = .next { s with ports := s.ports.set p y, assemblers := asm })
      ∧ (x.link = .linking → x.presence = true → x.presenceRun = 20 →
        exec (.presenceInactive p) s = .next
          { s with ports := s.ports.set p { y with link := .absent, presence := false, presenceRun := 0, helloWaitEnd := none, brk := .clear },
                   assemblers := asm }))
    ∧ (x.link = .streaming → x.presence = true → x.presenceRun = 20 →
        ∃ t, exec (.presenceInactive p) s = .next t
          ∧ t.port p = { y with link := .absent, presence := false, presenceRun := 0, helloWaitEnd := none, brk := .clear }
          ∧ LinkLossLeaves s p t)

/-- BREAK_END and OUTBOUND_FRAME_SENT (R18, R28): frames are sent one after another, oldest first; a waiting break begins after the last
of them and ends two ticks on; the frames that wait during a break are sent from its end. A frame offered to a port joins its queue as the
newest, is sent at once on an idle line, and is dropped while the queue holds 8.
The tick of the break end and the start of a frame on an idle line are the model's
reading (entry 12). -/
def Obligations.OutboundLine : Prop :=
  (∀ (s : State) (p : PortIx) (x : Port), s.resetHeld = false → x = s.port p →
    (x.brk = .low s.clock → x.sending = none →
      (x.queue = [] → exec (.breakEnd p) s = .next { s with ports := s.ports.set p { x with brk := .clear } })
      ∧ ∀ f rest, x.queue = f :: rest →
        exec (.breakEnd p) s = .next { s with ports := s.ports.set p { x with brk := .clear, sending := some f, queue := rest } })
    ∧ ∀ g, x.sending = some g →
      (x.queue = [] → x.brk = .clear →
        exec (.outboundFrameSent p) s = .next { s with ports := s.ports.set p { x with sending := none } })
      ∧ (x.queue = [] → x.brk = .waits →
        exec (.outboundFrameSent p) s = .next
          { s with ports := s.ports.set p { x with sending := none, brk := .low (s.clock + 2#32) } })
      ∧ ∀ f rest, x.queue = f :: rest → x.brk = .clear ∨ x.brk = .waits →
        exec (.outboundFrameSent p) s = .next { s with ports := s.ports.set p { x with sending := some f, queue := rest } })
  ∧ ∀ (f : OutFrame) (x : Port),
    (8 ≤ x.queue.length → offerFrame f x = x)
    ∧ (x.queue.length < 8 → x.sending ≠ none ∨ (∃ breakEnd, x.brk = .low breakEnd) → offerFrame f x = { x with queue := x.queue ++ [f] })
    ∧ (x.queue = [] → x.sending = none → x.brk = .clear → offerFrame f x = { x with sending := some f })

/-! ### The store port -/

/-- LOAD_ADDRESS_ACKNOWLEDGED, LOAD_ACKNOWLEDGE_DEADLINE and LOAD_READ (R191, R192), no port holding a hello pending: an acknowledge before
the deadline begins the reading; the deadline, and a read that is not acknowledged, end the load with the defaults kept; a read goes on,
rejects the image, or accepts it and puts its tables in force, and an end marker found at its place sets the marker offset.
Every end of the load, whatever its outcome, completes the hello of every LINKING port that holds one pending, with the rate and sets of the
tables then in force, each with its LINK_UP (R31, R40, R192).
The transactions of the load, their bytes and the acknowledges of a read (R189), and each test that fails (R191): the format code, a record's
type, its length, its end past offset 1019, a field out of range or a thing named twice, the end marker, the checksum, and a port named by
two lanes.
That no transaction is made at the tick of the deadline, the places of the tests, and the start of a frame on an idle line are the model's
reading (entries 11, 16 and 12); the device address as one byte 0x50, and the ascending order of the ports, are its choices (entries 23 and
21). -/
def Obligations.LoadStepsToItsEnd : Prop :=
  (∀ s : State, s.resetHeld = false → (∀ p, (s.port p).helloPending = false) →
    (s.store.job = .addressing → ∀ d, s.store.deadline = some d →
      (isBefore s.clock d = true → currentTransaction s = some .address ∧ exec .loadAddressAcknowledged s = .next
        { s with store := { s.store with job := .reading [], deadline := none, busUsed := true } })
      ∧ (d = s.clock → currentTransaction s = none ∧ exec .loadAcknowledgeDeadline s = .next
        { s with store := { state := .defaultsAbsent, markerOffset := s.store.markerOffset, job := .idle, deadline := none,
                            busUsed := false } }))
    ∧ ∀ got, s.store.job = .reading got →
      (s.store.busUsed = true → currentTransaction s = none ∧ ∀ v, exec (.loadRead v) s = .next s)
      ∧ (s.store.busUsed = false → currentTransaction s = some (.read got.length)
        ∧ exec (.loadRead none) s = .next
          { s with store := { state := .defaultsAbsent, markerOffset := s.store.markerOffset, job := .idle, deadline := none,
                              busUsed := false } }
        ∧ ∀ v : Vector Byte 16,
          (∀ m, loadFinding (got ++ v.toList) = .more m → exec (.loadRead (some v)) s = .next
            { s with store := { s.store with job := .reading (got ++ v.toList), busUsed := true,
                                             markerOffset := if m = none then s.store.markerOffset else m } })
          ∧ (∀ m, loadFinding (got ++ v.toList) = .bad m → exec (.loadRead (some v)) s = .next
            { s with store := { state := .defaultsBad, markerOffset := if m = none then s.store.markerOffset else m, job := .idle,
                                deadline := none, busUsed := false } })
          ∧ ∀ w o, loadFinding (got ++ v.toList) = .good w o → exec (.loadRead (some v)) s = .next
            { s with
              laneMap := w.laneMap, profiles := w.profiles, line := w.line,
              events := { s.events with owed := if w.line.attnMode = s.line.attnMode then s.events.owed else 0,
                                        pulse := if s.line.attnMode = .level ∧ w.line.attnMode = .pulse then false else s.events.pulse },
              store := { state := .loaded, markerOffset := some o, job := .idle, deadline := none, busUsed := false } }))
  ∧ (∀ (s : State) (c : Instr) (outcome : StoreState) (laneMap : Vector LaneEntry 10) (profiles : Vector Profile 4) (line : LineSettings)
    (found : LoadFinding), s.resetHeld = false →
    (c = .loadAcknowledgeDeadline ∧ s.store.job = .addressing ∧ s.store.deadline = some s.clock ∧ outcome = .defaultsAbsent
        ∧ laneMap = s.laneMap ∧ profiles = s.profiles ∧ line = s.line)
      ∨ (c = .loadRead none ∧ (∃ got, s.store.job = .reading got) ∧ s.store.busUsed = false ∧ outcome = .defaultsAbsent
        ∧ laneMap = s.laneMap ∧ profiles = s.profiles ∧ line = s.line)
      ∨ ((∃ got v, c = .loadRead (some v) ∧ s.store.job = .reading got ∧ found = loadFinding (got ++ v.toList)) ∧ s.store.busUsed = false
        ∧ (((∃ m, found = .bad m) ∧ outcome = .defaultsBad ∧ laneMap = s.laneMap ∧ profiles = s.profiles ∧ line = s.line)
          ∨ ∃ w o, found = .good w o ∧ outcome = .loaded ∧ laneMap = w.laneMap ∧ profiles = w.profiles ∧ line = w.line)) →
    ∃ t, exec c s = .next t ∧ t.store.state = outcome ∧ t.store.job = .idle ∧ t.laneMap = laneMap ∧ t.profiles = profiles ∧ t.line = line
      ∧ (∀ p x, x = s.port p → x.link = .linking → x.helloPending = true →
          ((x.sending = none ∧ x.queue = [] ∧ x.brk = .clear) ∨ (x.sending ≠ none ∧ x.queue.length ≤ 8)) →
          ∃ mask mismatched,
            t.port p = { x with helloPending := false, mismatched := mismatched, helloWaitEnd := none, streamingSince := some s.clock,
                                lastValid := some s.clock, silenceEnd := some (s.clock + 200#32), consecutiveBad := 0, link := .streaming,
                                sending := some (x.sending.getD (.mode line.rate mask)),
                                queue := if x.sending = none then [.streamOn] else (x.queue ++ [OutFrame.mode line.rate mask, OutFrame.streamOn]).take 8 }
            ∧ ((∀ l : LaneIx, laneMap[l].port ≠ some p) → mask = 0b1111#4 ∧ mismatched = false)
            ∧ ∀ (l : LaneIx) (n : Nat), laneMap[l].port = some p → (∀ k : LaneIx, laneMap[k].port = some p → k = l) → x.capability = some n →
                mask = laneMap[l].sumSet ||| laneMap[l].commitSet ∧ (mismatched = true ↔ ∃ k : Chan, n ≤ k.val ∧ mask.getLsbD k.val = true))
      ∧ (∀ p, (s.port p).link = .linking → (s.port p).helloPending = true → (t.port p).link = .streaming ∧ (t.port p).helloPending = false)
      ∧ (∀ p, (s.port p).link ≠ .linking ∨ (s.port p).helloPending = false → t.port p = s.port p)
      ∧ t.events = (allPorts.filter fun p => (s.port p).link = .linking && (s.port p).helloPending).foldl
          (fun q p => arrive line.attnMode
            { kind := .linkUp, time := s.clock, lane := mappedLane t p, attempt := openId s, value := BitVec.ofNat 32 p.val } q)
          { s.events with owed := if line.attnMode = s.line.attnMode then s.events.owed else 0,
                          pulse := if s.line.attnMode = .level ∧ line.attnMode = .pulse then false else s.events.pulse })
  ∧ (Transaction.address.sent = [0x50#8] ∧ Transaction.address.acknowledges = []
    ∧ ∀ o : Nat, (Transaction.read o).sent = [0x50#8, BitVec.ofNat 8 (o / 256), BitVec.ofNat 8 o, 0x50#8]
      ∧ (Transaction.read o).acknowledges.length = 16 ∧ ∀ i, i < 16 → (Transaction.read o).acknowledges[i]? = some (decide (i < 15)))
  ∧ (∀ (code count : Byte) (records : List Byte),
    (code ≠ 0x51#8 → loadFinding (code :: count :: records) = .bad none)
    ∧ (code = 0x51#8 → loadFinding (code :: count :: records) =
        loadRecords (code :: count :: records) count.toNat 2 loadCopyStart records))
  ∧ (∀ (all : List Byte) (left o : Nat) (w : LoadCopy) (ty len : Byte) (fields : List Byte) (n : Nat),
    (n = 23 ∧ ty = 0x01#8) ∨ (n = 6 ∧ ty = 0x02#8) ∨ (n = 12 ∧ ty = 0x03#8) →
    (len.toNat ≠ n ∨ 1019 < o + n + 1 → loadRecords all (left + 1) o w (ty :: len :: fields) = .bad none)
    ∧ (len.toNat = n → o + n + 1 ≤ 1019 →
      (fields.length < n → loadRecords all (left + 1) o w (ty :: len :: fields) = .more none)
      ∧ (n ≤ fields.length →
        (w.take ty (fields.take n) = none → loadRecords all (left + 1) o w (ty :: len :: fields) = .bad none)
        ∧ ∀ w', w.take ty (fields.take n) = some w' →
          loadRecords all (left + 1) o w (ty :: len :: fields) = loadRecords all left (o + n + 2) w' (fields.drop n))))
  ∧ (∀ (all : List Byte) (left o : Nat) (w : LoadCopy) (ty : Byte) (rest : List Byte), ty ≠ 0x01#8 → ty ≠ 0x02#8 → ty ≠ 0x03#8 →
    loadRecords all (left + 1) o w (ty :: rest) = .bad none)
  ∧ (∀ (w : LoadCopy) (b : Byte) (fields : List Byte),
    (b.toNat = 0 ∨ 10 < b.toNat ∨ laneEntryOfBytes fields = none ∨ (∃ l ∈ w.seenLanes, b.toNat = l.val + 1) →
      w.take 0x01#8 (b :: fields) = none)
    ∧ (3 < b.toNat ∨ profileOfBytes fields = none ∨ (∃ n ∈ w.seenProfiles, b.toNat = n.val) → w.take 0x02#8 (b :: fields) = none)
    ∧ (lineOfBytes (b :: fields) = none ∨ w.seenLine = true → w.take 0x03#8 (b :: fields) = none)
    ∧ (∀ l e, b.toNat = l.val + 1 → laneEntryOfBytes fields = some e → l ∉ w.seenLanes →
        w.take 0x01#8 (b :: fields) = some { w with laneMap := w.laneMap.set l e, seenLanes := l :: w.seenLanes })
    ∧ (∀ n p, b.toNat = n.val → profileOfBytes fields = some p → n ∉ w.seenProfiles →
        w.take 0x02#8 (b :: fields) = some { w with profiles := w.profiles.set n p, seenProfiles := n :: w.seenProfiles })
    ∧ (∀ c, lineOfBytes (b :: fields) = some c → w.seenLine = false →
        w.take 0x03#8 (b :: fields) = some { w with line := c, seenLine := true }))
  ∧ ∀ (all : List Byte) (o : Nat) (w : LoadCopy) (m0 m1 h l : Byte) (rest : List Byte),
    (m0 ≠ 0xC0#8 ∨ m1 ≠ 0xDE#8 → loadRecords all 0 o w (m0 :: m1 :: rest) = .bad none)
    ∧ loadRecords all 0 o w [0xC0#8, 0xDE#8] = .more (some o)
    ∧ (((all.take (o + 2)).map BitVec.toNat).sum % 65536 ≠ (65536 - (h ++ l).toNat) % 65536
        ∨ (∃ i k p, i ≠ k ∧ w.laneMap[(i : LaneIx)].port = some p ∧ w.laneMap[(k : LaneIx)].port = some p) →
      loadRecords all 0 o w (0xC0#8 :: 0xDE#8 :: h :: l :: rest) = .bad (some o))
    ∧ (((all.take (o + 2)).map BitVec.toNat).sum % 65536 = (65536 - (h ++ l).toNat) % 65536 →
        (∀ i k p, w.laneMap[(i : LaneIx)].port = some p → w.laneMap[(k : LaneIx)].port = some p → i = k) →
      loadRecords all 0 o w (0xC0#8 :: 0xDE#8 :: h :: l :: rest) = .good w o)

/-- The image that STORE_SAVE builds of tables within their ranges is 302 bytes long, is accepted by the load, with its end marker at
offset 298, and gives back the same tables (R190, R191, section 12.8).
The places of the load's tests are the model's reading (entry 16). -/
def Obligations.StoredImageRoundTrips : Prop :=
  ∀ s : State, TablesInv s → (saveImage s).length = 302
    ∧ ∃ w, loadFinding (saveImage s) = .good w 298 ∧ w.laneMap = s.laneMap ∧ w.profiles = s.profiles ∧ w.line = s.line

/-! ### Events and the attention line -/

/-- An event arrives (R181, R185, R186): it is the newest of a list with room and owes a pulse in PULSE mode; a full list stays as it is,
with the overflow mark set and the line and the pulses unchanged. ATTN_PULSE_START takes one pulse owed, at most one in each tick, and none in
LEVEL mode. A pulse under way asserts the line in either mode until ATTN_PULSE_END ends it (R53, R187), after which the line is asserted in LEVEL
mode while the list holds an event, and released in PULSE mode.
The moments of a pulse finer than a tick are the model's choice (entry 8). -/
def Obligations.EventsAndPulses : Prop :=
  (∀ (s : State) (kind : EventKind) (lane : Option LaneIx) (attempt : Nat) (value : BitVec 32),
    ∃ q, place kind lane attempt value s = { s with events := q }
      ∧ (s.events.list.length < 32 →
          q.list = s.events.list ++ [{ kind := kind, time := s.clock, lane := lane, attempt := attempt, value := value }]
          ∧ q.overflow = s.events.overflow ∧ q.pulse = s.events.pulse
          ∧ q.owed = (if s.line.attnMode = .pulse then min (s.events.owed + 1) 255 else s.events.owed)
          ∧ (s.line.attnMode = .level → attnAsserted (place kind lane attempt value s) = true))
      ∧ (32 ≤ s.events.list.length → q = { s.events with overflow := true }
          ∧ attnAsserted (place kind lane attempt value s) = attnAsserted s))
  ∧ (∀ s : State, s.resetHeld = false → s.line.attnMode = .pulse →
      (0 < s.events.owed → s.events.pulse = false → s.events.pulseThisTick = false → exec .attnPulseStart s = .next
        { s with events := { s.events with owed := s.events.owed - 1, pulse := true, pulseThisTick := true } })
      ∧ (s.events.owed = 0 ∨ s.events.pulse = true ∨ s.events.pulseThisTick = true → exec .attnPulseStart s = .next s))
  ∧ (∀ s : State, s.resetHeld = false → s.line.attnMode = .level → exec .attnPulseStart s = .next s)
  ∧ (∀ s : State, s.events.pulse = true → attnAsserted s = true)
  ∧ ∀ s : State, s.resetHeld = false → ∃ t, exec .attnPulseEnd s = .next t
      ∧ t = { s with events := { s.events with pulse := false } }
      ∧ (s.line.attnMode = .level → (attnAsserted t = true ↔ s.events.list ≠ []))
      ∧ (s.line.attnMode = .pulse → attnAsserted t = false)

/-! ### Arithmetic of the sample path and of the onset -/

/-- The contribution of a channel (R61): (raw - zero) × gain / 1024 to the nearest integer, halves away from zero, from -1 048 496 to
1 048 496, each of the two reached; whether the value is fresh has no part in it, and a channel outside the summation set has no
contribution. The combined force (R62) is the sum held within -3000 to 30 000, with SAT exactly when the sum was outside. -/
def Obligations.ContributionAndForce : Prop :=
  (∀ (e : LaneEntry) (a : Assembler) (c : Chan) (v : BitVec 16), e.Ok → a.raw[c] = some v →
    (-65535 ≤ v.toInt - e.zeros[c] ∧ v.toInt - e.zeros[c] ≤ 65535)
    ∧ ((v.toInt - e.zeros[c]) * e.gains[c]).natAbs ≤ 1073659905
    ∧ (1024 * contribution e a c - (v.toInt - e.zeros[c]) * e.gains[c]).natAbs ≤ 512
    ∧ ((1024 * contribution e a c - (v.toInt - e.zeros[c]) * e.gains[c]).natAbs = 512 →
        ((v.toInt - e.zeros[c]) * e.gains[c]).natAbs < (1024 * contribution e a c).natAbs)
    ∧ -1048496 ≤ contribution e a c ∧ contribution e a c ≤ 1048496)
  ∧ (∃ (e e' : LaneEntry) (a a' : Assembler), e.Ok ∧ e'.Ok ∧ contribution e a 0 = 1048496 ∧ contribution e' a' 0 = -1048496)
  ∧ (∀ (e : LaneEntry) (a a' : Assembler), (∀ c : Chan, e.sumSet.getLsbD c.val = true → a.raw[c] = a'.raw[c]) →
      forceSum e a = forceSum e a')
  ∧ (∀ (e : LaneEntry) (a : Assembler), forceSum e a =
      (if e.sumSet.getLsbD 0 then contribution e a 0 else 0) + (if e.sumSet.getLsbD 1 then contribution e a 1 else 0)
        + (if e.sumSet.getLsbD 2 then contribution e a 2 else 0) + (if e.sumSet.getLsbD 3 then contribution e a 3 else 0))
  ∧ (∀ (e : LaneEntry) (a : Assembler), e.Ok → (forceSum e a).natAbs ≤ 4193984)
  ∧ (∀ sum : Int,
      (-3000 ≤ sum → sum ≤ 30000 → combinedForce sum = sum ∧ satFlag sum = false)
      ∧ (30000 < sum → combinedForce sum = 30000 ∧ satFlag sum = true)
      ∧ (sum < -3000 → combinedForce sum = -3000 ∧ satFlag sum = true))
  ∧ ∀ (s : State) (l : LaneIx), (committedEntry l s).force = combinedForce (forceSum (s.lane l) (s.assembler l))
      ∧ (committedEntry l s).sat = satFlag (forceSum (s.lane l) (s.assembler l))

/-- A write of an unfrozen ring (R66, R68): the entry is the newest, every entry held before keeps its place in order but the oldest of a full
ring, which is gone; a frozen ring is not written. -/
def Obligations.RingWriteKeepsOrder : Prop :=
  ∀ (r : Ring) (e : Entry), r.Ok →
    (∀ id, r.frozenBy = some id → r.write e = r)
    ∧ (r.frozenBy = none →
        (r.write e).newest = some { entry := e, intact := true }
        ∧ (r.write e).held.map Prod.snd = (if r.count < 2048 then r.held.map Prod.snd else (r.held.map Prod.snd).tail)
            ++ [{ entry := e, intact := true }])

/-- The onset walk (R117 to R120): a first crossing that carries GAP, or that the ring did not write, is the onset, BOUNDED. Else the walk
passes the entries older than it that agree with their checks, lie above the return level and carry no GAP, each adding its STALE and its SAT
or OVL, until: 64 of them have been read or none is older, the onset the last one passed, BOUNDED; an entry whose check fails, the onset the
last one passed, BOUNDED, the failed entry's ring index reported; an entry at or below the level, the onset the last one passed, not BOUNDED;
or an entry above it that carries GAP, that entry the onset, BOUNDED, with its marks.
Whether a check agrees is held as a mark (entry 6). -/
def Obligations.OnsetWalkFindsRise : Prop :=
  (∀ (r : Ring) (level : Int) (s1 : FirstCrossing) (stale sat : Bool), s1.gap = true ∨ s1.index = none →
    onsetWalk r level s1 stale sat = { onset := s1.time, bounded := true, stale := stale, sat := sat, fault := none })
  ∧ ∀ (r : Ring) (level : Int) (s1 : FirstCrossing) (i k : Nat) (stale sat : Bool) (ws : List Slot) (onset : Time) (stale' sat' : Bool),
    r.Ok → s1.gap = false → s1.index = some i → i < 2048 → r.positionAt i < r.count → ws.length = k → k ≤ r.positionAt i →
    (∀ j (hj : j < ws.length), r.slot (r.indexAt (r.positionAt i - (j + 1))) = some ws[j] ∧ ws[j].intact = true
      ∧ level < ws[j].entry.force ∧ ws[j].entry.gap = false) →
    onset = (match ws.getLast? with | some w => w.entry.time | none => s1.time) →
    stale' = (stale || ws.any fun w => w.entry.stale) → sat' = (sat || ws.any fun w => w.entry.sat || w.entry.ovl) →
    (k = 64 ∨ (k < 64 ∧ r.positionAt i = k) →
      onsetWalk r level s1 stale sat = { onset := onset, bounded := true, stale := stale', sat := sat', fault := none })
    ∧ ∀ w0, k < 64 → k + 1 ≤ r.positionAt i → r.slot (r.indexAt (r.positionAt i - (k + 1))) = some w0 →
      (w0.intact = false → onsetWalk r level s1 stale sat =
        { onset := onset, bounded := true, stale := stale', sat := sat', fault := some (r.indexAt (r.positionAt i - (k + 1))) })
      ∧ (w0.intact = true → w0.entry.force ≤ level → onsetWalk r level s1 stale sat =
        { onset := onset, bounded := false, stale := stale', sat := sat', fault := none })
      ∧ (w0.intact = true → level < w0.entry.force → w0.entry.gap = true → onsetWalk r level s1 stale sat =
        { onset := w0.entry.time, bounded := true, stale := stale' || w0.entry.stale,
          sat := sat' || w0.entry.sat || w0.entry.ovl, fault := none })

/-! ### The onset detectors -/

/-- An entry taken in CAPTURE (R107, R108): held, it changes nothing; else it is accumulated, and the 64th finalizes the baseline: B is the
mean, halves toward +infinity, N half the spread rounded up, the threshold, L and U follow, the detector is WATCHING, and B, N and the
threshold stand in the lane's result, with SAT when an accumulated entry carried SAT or OVL. -/
def Obligations.CaptureBuildsBaseline : Prop :=
  ∀ (s : State) (l : LaneIx) (e : Entry) (index : Option Nat) (d d' : Detector), d = s.detector l → d.state = .capture →
    d' = { d with n := d.n + 1, sum := d.sum + e.force,
                  maximum := some (match d.maximum with | none => e.force | some m => max m e.force),
                  minimum := some (match d.minimum with | none => e.force | some m => min m e.force),
                  quality := d.quality || e.sat || e.ovl } →
    (d.hold = true → offerEntry l e index s = s)
    ∧ (d.hold = false → d.n ≠ 63 → offerEntry l e index s = { s with detectors := s.detectors.set l d' })
    ∧ (d.hold = false → d.n = 63 → ∃ (t : State) (b : Baseline), offerEntry l e index s = t
        ∧ t.detector l = { d' with baseline := some b, state := .watching, unsteadyRun := 0, persistence := 0 }
        ∧ (∀ k, k ≠ l → t.detector k = s.detector k) ∧ t.events = s.events ∧ t.rings = s.rings ∧ t.ports = s.ports
        ∧ -64 ≤ 2 * d'.sum - 128 * b.b ∧ 2 * d'.sum - 128 * b.b < 64
        ∧ (∀ hi lo, d'.maximum = some hi → d'.minimum = some lo → 2 * b.n - 1 ≤ hi - lo ∧ hi - lo ≤ 2 * b.n)
        ∧ b.theta = min (b.b + max ((laneProfile s l).tAbs : Int) ((laneProfile s l).k * b.n)) 30000 ∧ b.l = b.b + b.n
        ∧ 2 * b.u ≤ 2 * b.n + (laneProfile s l).tAbs ∧ 2 * b.n + (laneProfile s l).tAbs < 2 * b.u + 2
        ∧ ∀ rec, HistoryInv s → openRecord s = some rec → ∃ rec', recordOf t rec.id = some rec'
            ∧ ∀ k, rec'.result k = (if k = l then (rec.result l).map fun x =>
                { x with b := b.b, n := b.n, theta := b.theta, flags := x.flags.union { sat := d'.quality } } else rec.result k))

/-- An entry taken in WATCHING (R113, R114, R115, R116): before the shot and with no edge in qualification the unsteady test comes first: it
counts an entry outside the band and sets its run to 0 at any other, and the fortieth in a row reports UNSTEADY once. Then an entry below the
threshold leaves the detector WATCHING, and one at or above it begins a crossing run with its marks; with a P of 1 it acts at once as the
confirming entry of that run. -/
def Obligations.WatchingEntries : Prop :=
  ∀ (s : State) (l : LaneIx) (e : Entry) (index : Option Nat) (d d' : Detector) (b : Baseline) (run : Nat), d = s.detector l →
    d.state = .watching → d.baseline = some b →
    run = (if d.shotTime ≠ none ∨ d.hold = true then d.unsteadyRun
      else if (laneProfile s l).unsteady = true ∧ b.u < ((e.force - b.b).natAbs : Int) then min (d.unsteadyRun + 1) 40 else 0) →
    ∃ u : State,
      (d.shotTime ≠ none ∨ d.hold = true → u = s)
      ∧ (d.shotTime = none → d.hold = false →
        (run ≠ 40 ∨ d.unsteadyReported = true → u = { s with detectors := s.detectors.set l { d with unsteadyRun := run } })
        ∧ (run = 40 → d.unsteadyReported = false →
          u.detectors = s.detectors.set l { d with unsteadyRun := 40, unsteadyReported := true }
          ∧ u.events = arrive s.line.attnMode
              { kind := .unsteady, time := s.clock, lane := some l, attempt := d.attempt.getD 0,
                value := BitVec.ofNat 32 (e.force - b.b).natAbs } s.events
          ∧ u.ports = s.ports ∧ u.rings = s.rings ∧ u.driver = s.driver ∧ u.line = s.line ∧ u.laneMap = s.laneMap
          ∧ ∀ rec, HistoryInv s → openRecord s = some rec → ∃ rec', recordOf u rec.id = some rec'
              ∧ rec'.result l = (rec.result l).map fun x => { x with flags := x.flags.union { unsteady := true } }))
      ∧ (e.force < b.theta → offerEntry l e index s = u)
      ∧ (b.theta ≤ e.force →
          d' = { u.detector l with state := .crossing, persistence := 1,
                                   first := some { index := index, time := e.time, gap := e.gap },
                                   runStale := e.stale, runSat := e.sat || e.ovl } →
          ((laneProfile s l).p ≠ 1 → offerEntry l e index s = { u with detectors := u.detectors.set l d' })
          ∧ ((laneProfile s l).p = 1 →
              offerEntry l e index s = offerEntry l e index { u with detectors := u.detectors.set l { d' with persistence := 0 } }))

/-- An entry taken in CROSSING (R116, R119, R121 to R124, R139, R145 to R147): below the threshold the run is abandoned; the P-th entry
confirms the crossing with the onset of the walk less the latency, and CHECK_FAULT for a failed entry the walk met; before the shot it is
held, with EARLY_MOVE; after it the lane is judged against the reaction limit, its reaction time saturated with RT_SAT, or -32 768 for a
long-held mark and an onset not before T0; and a FALSE lane joins the list, has its FALSE_START with its reaction time and place, lights its
lamp and has the recall pulsed.
Whether a check agrees is held as a mark (entry 6). -/
def Obligations.CrossingsConfirmed : Prop :=
  ∀ (s : State) (l : LaneIx) (e : Entry) (index : Option Nat) (d d' : Detector) (b : Baseline), d = s.detector l → d.state = .crossing →
    d.baseline = some b →
    d' = { d with persistence := d.persistence + 1, runStale := d.runStale || e.stale, runSat := d.runSat || e.sat || e.ovl } →
    (e.force < b.theta → offerEntry l e index s =
      { s with
        detectors := s.detectors.set l
            { d with state := .watching, persistence := 0, first := none, runStale := false, runSat := false } })
    ∧ (b.theta ≤ e.force → d.persistence + 1 ≠ (laneProfile s l).p →
        offerEntry l e index s = { s with detectors := s.detectors.set l d' })
    ∧ ∀ (s1 : FirstCrossing) (w : Walk) (onset : Time) (q : EventQueue), b.theta ≤ e.force → d.persistence + 1 = (laneProfile s l).p →
        d.first = some s1 → w = onsetWalk (s.ring l) b.l s1 d'.runStale d'.runSat →
        q = (match w.fault with
          | none => s.events
          | some i => arrive s.line.attnMode
              { kind := .checkFault, time := s.clock, lane := some l,
                attempt := (match (s.ring l).frozenBy with | some id => id | none => openId s), value := BitVec.ofNat 32 i } s.events) →
        onset = w.onset - BitVec.ofNat 32 (s.lane l).latency →
        (d.shotTime = none → offerEntry l e index s =
          { s with
            detectors := s.detectors.set l
              { d' with state := .done, held := some { onset := onset, bounded := w.bounded, stale := w.stale, sat := w.sat },
                        heldAgeEnd := some (s.clock + 30000#32) },
            events := arrive s.line.attnMode
              { kind := .earlyMove, time := s.clock, lane := some l, attempt := d.attempt.getD 0, value := onset } q })
        ∧ ∀ t0 rec x, d.shotTime = some t0 → HistoryInv s → openRecord s = some rec → rec.result l = some x → x.verdict = .pending →
            ∃ (t : State) (rec' : Record) (rt : Int) (rtSat early : Bool), offerEntry l e index s = t ∧ recordOf t rec.id = some rec'
              ∧ t.detectors = s.detectors.set l { d' with state := .done }
              ∧ rec'.result l = some
                  { x with verdict := if rt < s.line.reactionLimit then .falseStart else .fair, onset := some onset, rt := some rt,
                           flags := x.flags.union
                             { early := early, rtSat := rtSat, bounded := w.bounded, stale := w.stale, sat := w.sat } }
              ∧ (tdiff onset t0 < -32768 ∨ (d.longHeld = true ∧ 0 ≤ tdiff onset t0) → rt = -32768 ∧ rtSat = true ∧ early = true)
              ∧ (d.longHeld = false → 32767 < tdiff onset t0 → rt = 32767 ∧ rtSat = true ∧ early = false)
              ∧ (d.longHeld = false ∨ tdiff onset t0 < 0 → -32768 ≤ tdiff onset t0 → tdiff onset t0 ≤ 32767 →
                  rt = tdiff onset t0 ∧ rtSat = false ∧ early = decide (tdiff onset t0 < 0))
              ∧ (s.line.reactionLimit ≤ rt → rec'.falseList = rec.falseList ∧ t.events = q ∧ t.driver = s.driver ∧ t.ports = s.ports)
              ∧ (rt < s.line.reactionLimit → ∃ q' : EventQueue,
                  rec'.falseList = insertFalse rec'.results l onset rec.falseList
                  ∧ q' = arrive s.line.attnMode
                      { kind := .falseStart, time := s.clock, lane := some l, attempt := rec.id,
                        value := BitVec.ofInt 16 rt ++ BitVec.ofNat 16 (rec'.falseList.idxOf l + 1) } q
                  ∧ (rec.state = .running → s.line.autoRecall = true → rec.recallPulse = none →
                      t.driver = .pulsing (tadd s.clock s.line.pulseLength) ∧ rec'.recallPulse = some s.clock
                      ∧ t.events = arrive s.line.attnMode
                          { kind := .recallSent, time := s.clock, lane := none, attempt := rec.id, value := 1#32 } q')
                  ∧ (rec.state ≠ .running ∨ s.line.autoRecall = false ∨ rec.recallPulse ≠ none →
                      t.driver = s.driver ∧ rec'.recallPulse = rec.recallPulse ∧ t.events = q')
                  ∧ ∀ p, rec.state = .running → (s.lane l).port = some p → (s.port p).link = .streaming → (s.lane l).lampEnable = true →
                      t.ports = s.ports.set p { offerFrame .lampOn (s.port p) with lamp := true })

/-! ### The false-start list -/

/-- The false-start list (R136, R137): a lane is inserted immediately before the first lane it precedes, or at the end, and a list in order of
onset, equal onsets in lane order, is in order after the insertion, when the onsets lie within a span of less than 2^31 ticks. -/
def Obligations.FalseStartInsertion : Prop :=
  ∀ (results : List LaneResult) (a : LaneIx) (ta base : Time) (ls : List LaneIx),
    onsetOf results a = some ta → (ta - base).toNat < 2147483648 →
    (∀ l ∈ ls, ∃ tl, onsetOf results l = some tl ∧ (tl - base).toNat < 2147483648) →
    (∃ before after, ls = before ++ after ∧ insertFalse results a ta ls = before ++ a :: after
      ∧ (∀ b ∈ before, ∀ tb, onsetOf results b = some tb → precedes a ta b tb = false)
      ∧ ∀ b tb, after.head? = some b → onsetOf results b = some tb → precedes a ta b tb = true)
    ∧ (a ∉ ls →
        ls.Pairwise (fun x y => ∀ tx ty, onsetOf results x = some tx → onsetOf results y = some ty → precedes x tx y ty = true) →
        (insertFalse results a ta ls).Pairwise
          (fun x y => ∀ tx ty, onsetOf results x = some tx → onsetOf results y = some ty → precedes x tx y ty = true))

/-! ### Invariants that every command keeps -/

/-- The event queue never holds more than 32 events, owes at most 255 pulses, and owes none in LEVEL mode (R180, R181, R185). -/
def Obligations.EventQueueBounded : Prop := ∀ s t : State, QueueInv s → step s = .next t → QueueInv t

/-- Every ring stays well formed, and every force in it lies between -3000 and 30 000 dN (R62, R65, R66). -/
def Obligations.RingsStayWellFormed : Prop := ∀ s t : State, RingsInv s → step s = .next t → RingsInv t

/-- The history holds at most 8 records, no two with the same id, and at most one, the newest, open (R80, R83, R85). -/
def Obligations.HistoryStaysWellFormed : Prop := ∀ s t : State, HistoryInv s → step s = .next t → HistoryInv t

/-- Every false-start list holds each FALSE lane exactly once and no other lane (R136). -/
def Obligations.FalseListHoldsFalseLanes : Prop :=
  ∀ s t : State, HistoryInv s → FalseListInv s → step s = .next t → FalseListInv t

/-- The tables stay within their ranges and no port is named by two lanes (R41, R43, R44, R75). -/
def Obligations.TablesStayInRange : Prop := ∀ s t : State, TablesInv s → step s = .next t → TablesInv t

/-- A station whose address is in fault never has a reply waiting or being sent, and the line is driven only for a reply that was waiting
(R166, R177). -/
def Obligations.LineDrivenOnlyForReplies : Prop :=
  (∀ s t : State, HostInv s → step s = .next t → HostInv t)
  ∧ (∀ s : State, HostInv s → deAsserted s = true → s.host.address ≠ none)
  ∧ ∀ (c : Instr) (s t : State), exec c s = .next t → deAsserted t = true → s.host.tx = t.host.tx ∨
      (c = .replyStart ∧ ∃ rep limit, s.host.tx = .waiting rep limit ∧ t.host.tx = .sending rep)

/-- Once a lane's verdict is other than PENDING, neither it nor the lane's reaction time and onset time changes while the record is held
(R134). -/
def Obligations.VerdictsAreFinal : Prop :=
  ∀ s t : State, HistoryInv s → step s = .next t →
    ∀ r ∈ s.seq.history, ∀ r' ∈ t.seq.history, r'.id = r.id → ∀ x ∈ r.results, x.verdict ≠ .pending →
      ∃ y ∈ r'.results, y.lane = x.lane ∧ y.verdict = x.verdict ∧ y.rt = x.rt ∧ y.onset = x.onset

/-- The state after reset meets every invariant. -/
def Obligations.ResetMeetsInvariants : Prop :=
  QueueInv State.reset ∧ RingsInv State.reset ∧ HistoryInv State.reset ∧ FalseListInv State.reset ∧ TablesInv State.reset
    ∧ HostInv State.reset
end

