-- ==== Sys2Proof/Laws/State.lean ====
section
/-! SUPPORT. One lemma per field per update of the state, each true by rfl. -/

namespace Sys2Proof.Machine

variable (s : State)

/-! ### State.setPort -/

@[simp] theorem State.setPort_clock (p : PortIx) (x : Port) : (s.setPort p x).clock = s.clock := rfl
@[simp] theorem State.setPort_pins (p : PortIx) (x : Port) : (s.setPort p x).pins = s.pins := rfl
@[simp] theorem State.setPort_resetHeld (p : PortIx) (x : Port) : (s.setPort p x).resetHeld = s.resetHeld := rfl
@[simp] theorem State.setPort_started (p : PortIx) (x : Port) : (s.setPort p x).started = s.started := rfl
@[simp] theorem State.setPort_pistol (p : PortIx) (x : Port) : (s.setPort p x).pistol = s.pistol := rfl
@[simp] theorem State.setPort_driver (p : PortIx) (x : Port) : (s.setPort p x).driver = s.driver := rfl
@[simp] theorem State.setPort_ports (p : PortIx) (x : Port) : (s.setPort p x).ports = s.ports.set p x := rfl
@[simp] theorem State.setPort_laneMap (p : PortIx) (x : Port) : (s.setPort p x).laneMap = s.laneMap := rfl
@[simp] theorem State.setPort_profiles (p : PortIx) (x : Port) : (s.setPort p x).profiles = s.profiles := rfl
@[simp] theorem State.setPort_line (p : PortIx) (x : Port) : (s.setPort p x).line = s.line := rfl
@[simp] theorem State.setPort_assemblers (p : PortIx) (x : Port) : (s.setPort p x).assemblers = s.assemblers := rfl
@[simp] theorem State.setPort_rings (p : PortIx) (x : Port) : (s.setPort p x).rings = s.rings := rfl
@[simp] theorem State.setPort_zeros (p : PortIx) (x : Port) : (s.setPort p x).zeros = s.zeros := rfl
@[simp] theorem State.setPort_detectors (p : PortIx) (x : Port) : (s.setPort p x).detectors = s.detectors := rfl
@[simp] theorem State.setPort_seq (p : PortIx) (x : Port) : (s.setPort p x).seq = s.seq := rfl
@[simp] theorem State.setPort_reservation (p : PortIx) (x : Port) : (s.setPort p x).reservation = s.reservation := rfl
@[simp] theorem State.setPort_host (p : PortIx) (x : Port) : (s.setPort p x).host = s.host := rfl
@[simp] theorem State.setPort_events (p : PortIx) (x : Port) : (s.setPort p x).events = s.events := rfl
@[simp] theorem State.setPort_store (p : PortIx) (x : Port) : (s.setPort p x).store = s.store := rfl
@[simp] theorem State.setPort_pending (p : PortIx) (x : Port) : (s.setPort p x).pending = s.pending := rfl

/-! ### State.setLane -/

@[simp] theorem State.setLane_clock (l : LaneIx) (x : LaneEntry) : (s.setLane l x).clock = s.clock := rfl
@[simp] theorem State.setLane_pins (l : LaneIx) (x : LaneEntry) : (s.setLane l x).pins = s.pins := rfl
@[simp] theorem State.setLane_resetHeld (l : LaneIx) (x : LaneEntry) : (s.setLane l x).resetHeld = s.resetHeld := rfl
@[simp] theorem State.setLane_started (l : LaneIx) (x : LaneEntry) : (s.setLane l x).started = s.started := rfl
@[simp] theorem State.setLane_pistol (l : LaneIx) (x : LaneEntry) : (s.setLane l x).pistol = s.pistol := rfl
@[simp] theorem State.setLane_driver (l : LaneIx) (x : LaneEntry) : (s.setLane l x).driver = s.driver := rfl
@[simp] theorem State.setLane_ports (l : LaneIx) (x : LaneEntry) : (s.setLane l x).ports = s.ports := rfl
@[simp] theorem State.setLane_laneMap (l : LaneIx) (x : LaneEntry) : (s.setLane l x).laneMap = s.laneMap.set l x := rfl
@[simp] theorem State.setLane_profiles (l : LaneIx) (x : LaneEntry) : (s.setLane l x).profiles = s.profiles := rfl
@[simp] theorem State.setLane_line (l : LaneIx) (x : LaneEntry) : (s.setLane l x).line = s.line := rfl
@[simp] theorem State.setLane_assemblers (l : LaneIx) (x : LaneEntry) : (s.setLane l x).assemblers = s.assemblers := rfl
@[simp] theorem State.setLane_rings (l : LaneIx) (x : LaneEntry) : (s.setLane l x).rings = s.rings := rfl
@[simp] theorem State.setLane_zeros (l : LaneIx) (x : LaneEntry) : (s.setLane l x).zeros = s.zeros := rfl
@[simp] theorem State.setLane_detectors (l : LaneIx) (x : LaneEntry) : (s.setLane l x).detectors = s.detectors := rfl
@[simp] theorem State.setLane_seq (l : LaneIx) (x : LaneEntry) : (s.setLane l x).seq = s.seq := rfl
@[simp] theorem State.setLane_reservation (l : LaneIx) (x : LaneEntry) : (s.setLane l x).reservation = s.reservation := rfl
@[simp] theorem State.setLane_host (l : LaneIx) (x : LaneEntry) : (s.setLane l x).host = s.host := rfl
@[simp] theorem State.setLane_events (l : LaneIx) (x : LaneEntry) : (s.setLane l x).events = s.events := rfl
@[simp] theorem State.setLane_store (l : LaneIx) (x : LaneEntry) : (s.setLane l x).store = s.store := rfl
@[simp] theorem State.setLane_pending (l : LaneIx) (x : LaneEntry) : (s.setLane l x).pending = s.pending := rfl

/-! ### State.setAssembler -/

@[simp] theorem State.setAssembler_clock (l : LaneIx) (x : Assembler) : (s.setAssembler l x).clock = s.clock := rfl
@[simp] theorem State.setAssembler_pins (l : LaneIx) (x : Assembler) : (s.setAssembler l x).pins = s.pins := rfl
@[simp] theorem State.setAssembler_resetHeld (l : LaneIx) (x : Assembler) : (s.setAssembler l x).resetHeld = s.resetHeld := rfl
@[simp] theorem State.setAssembler_started (l : LaneIx) (x : Assembler) : (s.setAssembler l x).started = s.started := rfl
@[simp] theorem State.setAssembler_pistol (l : LaneIx) (x : Assembler) : (s.setAssembler l x).pistol = s.pistol := rfl
@[simp] theorem State.setAssembler_driver (l : LaneIx) (x : Assembler) : (s.setAssembler l x).driver = s.driver := rfl
@[simp] theorem State.setAssembler_ports (l : LaneIx) (x : Assembler) : (s.setAssembler l x).ports = s.ports := rfl
@[simp] theorem State.setAssembler_laneMap (l : LaneIx) (x : Assembler) : (s.setAssembler l x).laneMap = s.laneMap := rfl
@[simp] theorem State.setAssembler_profiles (l : LaneIx) (x : Assembler) : (s.setAssembler l x).profiles = s.profiles := rfl
@[simp] theorem State.setAssembler_line (l : LaneIx) (x : Assembler) : (s.setAssembler l x).line = s.line := rfl
@[simp] theorem State.setAssembler_assemblers (l : LaneIx) (x : Assembler) : (s.setAssembler l x).assemblers = s.assemblers.set l x := rfl
@[simp] theorem State.setAssembler_rings (l : LaneIx) (x : Assembler) : (s.setAssembler l x).rings = s.rings := rfl
@[simp] theorem State.setAssembler_zeros (l : LaneIx) (x : Assembler) : (s.setAssembler l x).zeros = s.zeros := rfl
@[simp] theorem State.setAssembler_detectors (l : LaneIx) (x : Assembler) : (s.setAssembler l x).detectors = s.detectors := rfl
@[simp] theorem State.setAssembler_seq (l : LaneIx) (x : Assembler) : (s.setAssembler l x).seq = s.seq := rfl
@[simp] theorem State.setAssembler_reservation (l : LaneIx) (x : Assembler) : (s.setAssembler l x).reservation = s.reservation := rfl
@[simp] theorem State.setAssembler_host (l : LaneIx) (x : Assembler) : (s.setAssembler l x).host = s.host := rfl
@[simp] theorem State.setAssembler_events (l : LaneIx) (x : Assembler) : (s.setAssembler l x).events = s.events := rfl
@[simp] theorem State.setAssembler_store (l : LaneIx) (x : Assembler) : (s.setAssembler l x).store = s.store := rfl
@[simp] theorem State.setAssembler_pending (l : LaneIx) (x : Assembler) : (s.setAssembler l x).pending = s.pending := rfl

/-! ### State.setRing -/

@[simp] theorem State.setRing_clock (l : LaneIx) (x : Ring) : (s.setRing l x).clock = s.clock := rfl
@[simp] theorem State.setRing_pins (l : LaneIx) (x : Ring) : (s.setRing l x).pins = s.pins := rfl
@[simp] theorem State.setRing_resetHeld (l : LaneIx) (x : Ring) : (s.setRing l x).resetHeld = s.resetHeld := rfl
@[simp] theorem State.setRing_started (l : LaneIx) (x : Ring) : (s.setRing l x).started = s.started := rfl
@[simp] theorem State.setRing_pistol (l : LaneIx) (x : Ring) : (s.setRing l x).pistol = s.pistol := rfl
@[simp] theorem State.setRing_driver (l : LaneIx) (x : Ring) : (s.setRing l x).driver = s.driver := rfl
@[simp] theorem State.setRing_ports (l : LaneIx) (x : Ring) : (s.setRing l x).ports = s.ports := rfl
@[simp] theorem State.setRing_laneMap (l : LaneIx) (x : Ring) : (s.setRing l x).laneMap = s.laneMap := rfl
@[simp] theorem State.setRing_profiles (l : LaneIx) (x : Ring) : (s.setRing l x).profiles = s.profiles := rfl
@[simp] theorem State.setRing_line (l : LaneIx) (x : Ring) : (s.setRing l x).line = s.line := rfl
@[simp] theorem State.setRing_assemblers (l : LaneIx) (x : Ring) : (s.setRing l x).assemblers = s.assemblers := rfl
@[simp] theorem State.setRing_rings (l : LaneIx) (x : Ring) : (s.setRing l x).rings = s.rings.set l x := rfl
@[simp] theorem State.setRing_zeros (l : LaneIx) (x : Ring) : (s.setRing l x).zeros = s.zeros := rfl
@[simp] theorem State.setRing_detectors (l : LaneIx) (x : Ring) : (s.setRing l x).detectors = s.detectors := rfl
@[simp] theorem State.setRing_seq (l : LaneIx) (x : Ring) : (s.setRing l x).seq = s.seq := rfl
@[simp] theorem State.setRing_reservation (l : LaneIx) (x : Ring) : (s.setRing l x).reservation = s.reservation := rfl
@[simp] theorem State.setRing_host (l : LaneIx) (x : Ring) : (s.setRing l x).host = s.host := rfl
@[simp] theorem State.setRing_events (l : LaneIx) (x : Ring) : (s.setRing l x).events = s.events := rfl
@[simp] theorem State.setRing_store (l : LaneIx) (x : Ring) : (s.setRing l x).store = s.store := rfl
@[simp] theorem State.setRing_pending (l : LaneIx) (x : Ring) : (s.setRing l x).pending = s.pending := rfl

/-! ### State.setZero -/

@[simp] theorem State.setZero_clock (l : LaneIx) (x : Option ZeroRun) : (s.setZero l x).clock = s.clock := rfl
@[simp] theorem State.setZero_pins (l : LaneIx) (x : Option ZeroRun) : (s.setZero l x).pins = s.pins := rfl
@[simp] theorem State.setZero_resetHeld (l : LaneIx) (x : Option ZeroRun) : (s.setZero l x).resetHeld = s.resetHeld := rfl
@[simp] theorem State.setZero_started (l : LaneIx) (x : Option ZeroRun) : (s.setZero l x).started = s.started := rfl
@[simp] theorem State.setZero_pistol (l : LaneIx) (x : Option ZeroRun) : (s.setZero l x).pistol = s.pistol := rfl
@[simp] theorem State.setZero_driver (l : LaneIx) (x : Option ZeroRun) : (s.setZero l x).driver = s.driver := rfl
@[simp] theorem State.setZero_ports (l : LaneIx) (x : Option ZeroRun) : (s.setZero l x).ports = s.ports := rfl
@[simp] theorem State.setZero_laneMap (l : LaneIx) (x : Option ZeroRun) : (s.setZero l x).laneMap = s.laneMap := rfl
@[simp] theorem State.setZero_profiles (l : LaneIx) (x : Option ZeroRun) : (s.setZero l x).profiles = s.profiles := rfl
@[simp] theorem State.setZero_line (l : LaneIx) (x : Option ZeroRun) : (s.setZero l x).line = s.line := rfl
@[simp] theorem State.setZero_assemblers (l : LaneIx) (x : Option ZeroRun) : (s.setZero l x).assemblers = s.assemblers := rfl
@[simp] theorem State.setZero_rings (l : LaneIx) (x : Option ZeroRun) : (s.setZero l x).rings = s.rings := rfl
@[simp] theorem State.setZero_zeros (l : LaneIx) (x : Option ZeroRun) : (s.setZero l x).zeros = s.zeros.set l x := rfl
@[simp] theorem State.setZero_detectors (l : LaneIx) (x : Option ZeroRun) : (s.setZero l x).detectors = s.detectors := rfl
@[simp] theorem State.setZero_seq (l : LaneIx) (x : Option ZeroRun) : (s.setZero l x).seq = s.seq := rfl
@[simp] theorem State.setZero_reservation (l : LaneIx) (x : Option ZeroRun) : (s.setZero l x).reservation = s.reservation := rfl
@[simp] theorem State.setZero_host (l : LaneIx) (x : Option ZeroRun) : (s.setZero l x).host = s.host := rfl
@[simp] theorem State.setZero_events (l : LaneIx) (x : Option ZeroRun) : (s.setZero l x).events = s.events := rfl
@[simp] theorem State.setZero_store (l : LaneIx) (x : Option ZeroRun) : (s.setZero l x).store = s.store := rfl
@[simp] theorem State.setZero_pending (l : LaneIx) (x : Option ZeroRun) : (s.setZero l x).pending = s.pending := rfl

/-! ### State.setDetector -/

@[simp] theorem State.setDetector_clock (l : LaneIx) (x : Detector) : (s.setDetector l x).clock = s.clock := rfl
@[simp] theorem State.setDetector_pins (l : LaneIx) (x : Detector) : (s.setDetector l x).pins = s.pins := rfl
@[simp] theorem State.setDetector_resetHeld (l : LaneIx) (x : Detector) : (s.setDetector l x).resetHeld = s.resetHeld := rfl
@[simp] theorem State.setDetector_started (l : LaneIx) (x : Detector) : (s.setDetector l x).started = s.started := rfl
@[simp] theorem State.setDetector_pistol (l : LaneIx) (x : Detector) : (s.setDetector l x).pistol = s.pistol := rfl
@[simp] theorem State.setDetector_driver (l : LaneIx) (x : Detector) : (s.setDetector l x).driver = s.driver := rfl
@[simp] theorem State.setDetector_ports (l : LaneIx) (x : Detector) : (s.setDetector l x).ports = s.ports := rfl
@[simp] theorem State.setDetector_laneMap (l : LaneIx) (x : Detector) : (s.setDetector l x).laneMap = s.laneMap := rfl
@[simp] theorem State.setDetector_profiles (l : LaneIx) (x : Detector) : (s.setDetector l x).profiles = s.profiles := rfl
@[simp] theorem State.setDetector_line (l : LaneIx) (x : Detector) : (s.setDetector l x).line = s.line := rfl
@[simp] theorem State.setDetector_assemblers (l : LaneIx) (x : Detector) : (s.setDetector l x).assemblers = s.assemblers := rfl
@[simp] theorem State.setDetector_rings (l : LaneIx) (x : Detector) : (s.setDetector l x).rings = s.rings := rfl
@[simp] theorem State.setDetector_zeros (l : LaneIx) (x : Detector) : (s.setDetector l x).zeros = s.zeros := rfl
@[simp] theorem State.setDetector_detectors (l : LaneIx) (x : Detector) : (s.setDetector l x).detectors = s.detectors.set l x := rfl
@[simp] theorem State.setDetector_seq (l : LaneIx) (x : Detector) : (s.setDetector l x).seq = s.seq := rfl
@[simp] theorem State.setDetector_reservation (l : LaneIx) (x : Detector) : (s.setDetector l x).reservation = s.reservation := rfl
@[simp] theorem State.setDetector_host (l : LaneIx) (x : Detector) : (s.setDetector l x).host = s.host := rfl
@[simp] theorem State.setDetector_events (l : LaneIx) (x : Detector) : (s.setDetector l x).events = s.events := rfl
@[simp] theorem State.setDetector_store (l : LaneIx) (x : Detector) : (s.setDetector l x).store = s.store := rfl
@[simp] theorem State.setDetector_pending (l : LaneIx) (x : Detector) : (s.setDetector l x).pending = s.pending := rfl

/-! ### State.setProfile -/

@[simp] theorem State.setProfile_clock (n : Fin 4) (x : Profile) : (s.setProfile n x).clock = s.clock := rfl
@[simp] theorem State.setProfile_pins (n : Fin 4) (x : Profile) : (s.setProfile n x).pins = s.pins := rfl
@[simp] theorem State.setProfile_resetHeld (n : Fin 4) (x : Profile) : (s.setProfile n x).resetHeld = s.resetHeld := rfl
@[simp] theorem State.setProfile_started (n : Fin 4) (x : Profile) : (s.setProfile n x).started = s.started := rfl
@[simp] theorem State.setProfile_pistol (n : Fin 4) (x : Profile) : (s.setProfile n x).pistol = s.pistol := rfl
@[simp] theorem State.setProfile_driver (n : Fin 4) (x : Profile) : (s.setProfile n x).driver = s.driver := rfl
@[simp] theorem State.setProfile_ports (n : Fin 4) (x : Profile) : (s.setProfile n x).ports = s.ports := rfl
@[simp] theorem State.setProfile_laneMap (n : Fin 4) (x : Profile) : (s.setProfile n x).laneMap = s.laneMap := rfl
@[simp] theorem State.setProfile_profiles (n : Fin 4) (x : Profile) : (s.setProfile n x).profiles = s.profiles.set n x := rfl
@[simp] theorem State.setProfile_line (n : Fin 4) (x : Profile) : (s.setProfile n x).line = s.line := rfl
@[simp] theorem State.setProfile_assemblers (n : Fin 4) (x : Profile) : (s.setProfile n x).assemblers = s.assemblers := rfl
@[simp] theorem State.setProfile_rings (n : Fin 4) (x : Profile) : (s.setProfile n x).rings = s.rings := rfl
@[simp] theorem State.setProfile_zeros (n : Fin 4) (x : Profile) : (s.setProfile n x).zeros = s.zeros := rfl
@[simp] theorem State.setProfile_detectors (n : Fin 4) (x : Profile) : (s.setProfile n x).detectors = s.detectors := rfl
@[simp] theorem State.setProfile_seq (n : Fin 4) (x : Profile) : (s.setProfile n x).seq = s.seq := rfl
@[simp] theorem State.setProfile_reservation (n : Fin 4) (x : Profile) : (s.setProfile n x).reservation = s.reservation := rfl
@[simp] theorem State.setProfile_host (n : Fin 4) (x : Profile) : (s.setProfile n x).host = s.host := rfl
@[simp] theorem State.setProfile_events (n : Fin 4) (x : Profile) : (s.setProfile n x).events = s.events := rfl
@[simp] theorem State.setProfile_store (n : Fin 4) (x : Profile) : (s.setProfile n x).store = s.store := rfl
@[simp] theorem State.setProfile_pending (n : Fin 4) (x : Profile) : (s.setProfile n x).pending = s.pending := rfl

/-! ### State.mapDetectors -/

@[simp] theorem State.mapDetectors_clock (ls : List LaneIx) (f : Detector → Detector) : (s.mapDetectors ls f).clock = s.clock := rfl
@[simp] theorem State.mapDetectors_pins (ls : List LaneIx) (f : Detector → Detector) : (s.mapDetectors ls f).pins = s.pins := rfl
@[simp] theorem State.mapDetectors_resetHeld (ls : List LaneIx) (f : Detector → Detector) : (s.mapDetectors ls f).resetHeld = s.resetHeld := rfl
@[simp] theorem State.mapDetectors_started (ls : List LaneIx) (f : Detector → Detector) : (s.mapDetectors ls f).started = s.started := rfl
@[simp] theorem State.mapDetectors_pistol (ls : List LaneIx) (f : Detector → Detector) : (s.mapDetectors ls f).pistol = s.pistol := rfl
@[simp] theorem State.mapDetectors_driver (ls : List LaneIx) (f : Detector → Detector) : (s.mapDetectors ls f).driver = s.driver := rfl
@[simp] theorem State.mapDetectors_ports (ls : List LaneIx) (f : Detector → Detector) : (s.mapDetectors ls f).ports = s.ports := rfl
@[simp] theorem State.mapDetectors_laneMap (ls : List LaneIx) (f : Detector → Detector) : (s.mapDetectors ls f).laneMap = s.laneMap := rfl
@[simp] theorem State.mapDetectors_profiles (ls : List LaneIx) (f : Detector → Detector) : (s.mapDetectors ls f).profiles = s.profiles := rfl
@[simp] theorem State.mapDetectors_line (ls : List LaneIx) (f : Detector → Detector) : (s.mapDetectors ls f).line = s.line := rfl
@[simp] theorem State.mapDetectors_assemblers (ls : List LaneIx) (f : Detector → Detector) : (s.mapDetectors ls f).assemblers = s.assemblers := rfl
@[simp] theorem State.mapDetectors_rings (ls : List LaneIx) (f : Detector → Detector) : (s.mapDetectors ls f).rings = s.rings := rfl
@[simp] theorem State.mapDetectors_zeros (ls : List LaneIx) (f : Detector → Detector) : (s.mapDetectors ls f).zeros = s.zeros := rfl
@[simp] theorem State.mapDetectors_detectors (ls : List LaneIx) (f : Detector → Detector) : (s.mapDetectors ls f).detectors = Vector.ofFn fun l => if l ∈ ls then f s.detectors[l] else s.detectors[l] := rfl
@[simp] theorem State.mapDetectors_seq (ls : List LaneIx) (f : Detector → Detector) : (s.mapDetectors ls f).seq = s.seq := rfl
@[simp] theorem State.mapDetectors_reservation (ls : List LaneIx) (f : Detector → Detector) : (s.mapDetectors ls f).reservation = s.reservation := rfl
@[simp] theorem State.mapDetectors_host (ls : List LaneIx) (f : Detector → Detector) : (s.mapDetectors ls f).host = s.host := rfl
@[simp] theorem State.mapDetectors_events (ls : List LaneIx) (f : Detector → Detector) : (s.mapDetectors ls f).events = s.events := rfl
@[simp] theorem State.mapDetectors_store (ls : List LaneIx) (f : Detector → Detector) : (s.mapDetectors ls f).store = s.store := rfl
@[simp] theorem State.mapDetectors_pending (ls : List LaneIx) (f : Detector → Detector) : (s.mapDetectors ls f).pending = s.pending := rfl

/-! ### State.mapRings -/

@[simp] theorem State.mapRings_clock (ls : List LaneIx) (f : Ring → Ring) : (s.mapRings ls f).clock = s.clock := rfl
@[simp] theorem State.mapRings_pins (ls : List LaneIx) (f : Ring → Ring) : (s.mapRings ls f).pins = s.pins := rfl
@[simp] theorem State.mapRings_resetHeld (ls : List LaneIx) (f : Ring → Ring) : (s.mapRings ls f).resetHeld = s.resetHeld := rfl
@[simp] theorem State.mapRings_started (ls : List LaneIx) (f : Ring → Ring) : (s.mapRings ls f).started = s.started := rfl
@[simp] theorem State.mapRings_pistol (ls : List LaneIx) (f : Ring → Ring) : (s.mapRings ls f).pistol = s.pistol := rfl
@[simp] theorem State.mapRings_driver (ls : List LaneIx) (f : Ring → Ring) : (s.mapRings ls f).driver = s.driver := rfl
@[simp] theorem State.mapRings_ports (ls : List LaneIx) (f : Ring → Ring) : (s.mapRings ls f).ports = s.ports := rfl
@[simp] theorem State.mapRings_laneMap (ls : List LaneIx) (f : Ring → Ring) : (s.mapRings ls f).laneMap = s.laneMap := rfl
@[simp] theorem State.mapRings_profiles (ls : List LaneIx) (f : Ring → Ring) : (s.mapRings ls f).profiles = s.profiles := rfl
@[simp] theorem State.mapRings_line (ls : List LaneIx) (f : Ring → Ring) : (s.mapRings ls f).line = s.line := rfl
@[simp] theorem State.mapRings_assemblers (ls : List LaneIx) (f : Ring → Ring) : (s.mapRings ls f).assemblers = s.assemblers := rfl
@[simp] theorem State.mapRings_rings (ls : List LaneIx) (f : Ring → Ring) : (s.mapRings ls f).rings = Vector.ofFn fun l => if l ∈ ls then f s.rings[l] else s.rings[l] := rfl
@[simp] theorem State.mapRings_zeros (ls : List LaneIx) (f : Ring → Ring) : (s.mapRings ls f).zeros = s.zeros := rfl
@[simp] theorem State.mapRings_detectors (ls : List LaneIx) (f : Ring → Ring) : (s.mapRings ls f).detectors = s.detectors := rfl
@[simp] theorem State.mapRings_seq (ls : List LaneIx) (f : Ring → Ring) : (s.mapRings ls f).seq = s.seq := rfl
@[simp] theorem State.mapRings_reservation (ls : List LaneIx) (f : Ring → Ring) : (s.mapRings ls f).reservation = s.reservation := rfl
@[simp] theorem State.mapRings_host (ls : List LaneIx) (f : Ring → Ring) : (s.mapRings ls f).host = s.host := rfl
@[simp] theorem State.mapRings_events (ls : List LaneIx) (f : Ring → Ring) : (s.mapRings ls f).events = s.events := rfl
@[simp] theorem State.mapRings_store (ls : List LaneIx) (f : Ring → Ring) : (s.mapRings ls f).store = s.store := rfl
@[simp] theorem State.mapRings_pending (ls : List LaneIx) (f : Ring → Ring) : (s.mapRings ls f).pending = s.pending := rfl

/-! ### place -/

@[simp] theorem place_clock (k : EventKind) (l : Option LaneIx) (a : Nat) (v : BitVec 32) : (place k l a v s).clock = s.clock := rfl
@[simp] theorem place_pins (k : EventKind) (l : Option LaneIx) (a : Nat) (v : BitVec 32) : (place k l a v s).pins = s.pins := rfl
@[simp] theorem place_resetHeld (k : EventKind) (l : Option LaneIx) (a : Nat) (v : BitVec 32) : (place k l a v s).resetHeld = s.resetHeld := rfl
@[simp] theorem place_started (k : EventKind) (l : Option LaneIx) (a : Nat) (v : BitVec 32) : (place k l a v s).started = s.started := rfl
@[simp] theorem place_pistol (k : EventKind) (l : Option LaneIx) (a : Nat) (v : BitVec 32) : (place k l a v s).pistol = s.pistol := rfl
@[simp] theorem place_driver (k : EventKind) (l : Option LaneIx) (a : Nat) (v : BitVec 32) : (place k l a v s).driver = s.driver := rfl
@[simp] theorem place_ports (k : EventKind) (l : Option LaneIx) (a : Nat) (v : BitVec 32) : (place k l a v s).ports = s.ports := rfl
@[simp] theorem place_laneMap (k : EventKind) (l : Option LaneIx) (a : Nat) (v : BitVec 32) : (place k l a v s).laneMap = s.laneMap := rfl
@[simp] theorem place_profiles (k : EventKind) (l : Option LaneIx) (a : Nat) (v : BitVec 32) : (place k l a v s).profiles = s.profiles := rfl
@[simp] theorem place_line (k : EventKind) (l : Option LaneIx) (a : Nat) (v : BitVec 32) : (place k l a v s).line = s.line := rfl
@[simp] theorem place_assemblers (k : EventKind) (l : Option LaneIx) (a : Nat) (v : BitVec 32) : (place k l a v s).assemblers = s.assemblers := rfl
@[simp] theorem place_rings (k : EventKind) (l : Option LaneIx) (a : Nat) (v : BitVec 32) : (place k l a v s).rings = s.rings := rfl
@[simp] theorem place_zeros (k : EventKind) (l : Option LaneIx) (a : Nat) (v : BitVec 32) : (place k l a v s).zeros = s.zeros := rfl
@[simp] theorem place_detectors (k : EventKind) (l : Option LaneIx) (a : Nat) (v : BitVec 32) : (place k l a v s).detectors = s.detectors := rfl
@[simp] theorem place_seq (k : EventKind) (l : Option LaneIx) (a : Nat) (v : BitVec 32) : (place k l a v s).seq = s.seq := rfl
@[simp] theorem place_reservation (k : EventKind) (l : Option LaneIx) (a : Nat) (v : BitVec 32) : (place k l a v s).reservation = s.reservation := rfl
@[simp] theorem place_host (k : EventKind) (l : Option LaneIx) (a : Nat) (v : BitVec 32) : (place k l a v s).host = s.host := rfl
@[simp] theorem place_events (k : EventKind) (l : Option LaneIx) (a : Nat) (v : BitVec 32) :
    (place k l a v s).events = arrive s.line.attnMode ⟨k, s.clock, l, a, v⟩ s.events := rfl
@[simp] theorem place_store (k : EventKind) (l : Option LaneIx) (a : Nat) (v : BitVec 32) : (place k l a v s).store = s.store := rfl
@[simp] theorem place_pending (k : EventKind) (l : Option LaneIx) (a : Nat) (v : BitVec 32) : (place k l a v s).pending = s.pending := rfl

/-! ### setRx -/

@[simp] theorem setRx_clock (x : RxState) : (setRx x s).clock = s.clock := rfl
@[simp] theorem setRx_pins (x : RxState) : (setRx x s).pins = s.pins := rfl
@[simp] theorem setRx_resetHeld (x : RxState) : (setRx x s).resetHeld = s.resetHeld := rfl
@[simp] theorem setRx_started (x : RxState) : (setRx x s).started = s.started := rfl
@[simp] theorem setRx_pistol (x : RxState) : (setRx x s).pistol = s.pistol := rfl
@[simp] theorem setRx_driver (x : RxState) : (setRx x s).driver = s.driver := rfl
@[simp] theorem setRx_ports (x : RxState) : (setRx x s).ports = s.ports := rfl
@[simp] theorem setRx_laneMap (x : RxState) : (setRx x s).laneMap = s.laneMap := rfl
@[simp] theorem setRx_profiles (x : RxState) : (setRx x s).profiles = s.profiles := rfl
@[simp] theorem setRx_line (x : RxState) : (setRx x s).line = s.line := rfl
@[simp] theorem setRx_assemblers (x : RxState) : (setRx x s).assemblers = s.assemblers := rfl
@[simp] theorem setRx_rings (x : RxState) : (setRx x s).rings = s.rings := rfl
@[simp] theorem setRx_zeros (x : RxState) : (setRx x s).zeros = s.zeros := rfl
@[simp] theorem setRx_detectors (x : RxState) : (setRx x s).detectors = s.detectors := rfl
@[simp] theorem setRx_seq (x : RxState) : (setRx x s).seq = s.seq := rfl
@[simp] theorem setRx_reservation (x : RxState) : (setRx x s).reservation = s.reservation := rfl
@[simp] theorem setRx_host (x : RxState) : (setRx x s).host = { s.host with rx := x } := rfl
@[simp] theorem setRx_events (x : RxState) : (setRx x s).events = s.events := rfl
@[simp] theorem setRx_store (x : RxState) : (setRx x s).store = s.store := rfl
@[simp] theorem setRx_pending (x : RxState) : (setRx x s).pending = s.pending := rfl

/-! ### Reading one place after one place has been set -/

@[simp] theorem State.setPort_port (i j : PortIx) (x : Port) : (s.setPort i x).port j = if i = j then x else s.port j := by
  simp [State.port, State.setPort, Vector.getElem_set, Fin.ext_iff]
@[simp] theorem State.setLane_lane (i j : LaneIx) (x : LaneEntry) : (s.setLane i x).lane j = if i = j then x else s.lane j := by
  simp [State.lane, State.setLane, Vector.getElem_set, Fin.ext_iff]
@[simp] theorem State.setAssembler_assembler (i j : LaneIx) (x : Assembler) : (s.setAssembler i x).assembler j = if i = j then x else s.assembler j := by
  simp [State.assembler, State.setAssembler, Vector.getElem_set, Fin.ext_iff]
@[simp] theorem State.setRing_ring (i j : LaneIx) (x : Ring) : (s.setRing i x).ring j = if i = j then x else s.ring j := by
  simp [State.ring, State.setRing, Vector.getElem_set, Fin.ext_iff]
@[simp] theorem State.setZero_zero (i j : LaneIx) (x : Option ZeroRun) : (s.setZero i x).zero j = if i = j then x else s.zero j := by
  simp [State.zero, State.setZero, Vector.getElem_set, Fin.ext_iff]
@[simp] theorem State.setDetector_detector (i j : LaneIx) (x : Detector) : (s.setDetector i x).detector j = if i = j then x else s.detector j := by
  simp [State.detector, State.setDetector, Vector.getElem_set, Fin.ext_iff]
@[simp] theorem State.setProfile_profile (i j : Fin 4) (x : Profile) : (s.setProfile i x).profile j = if i = j then x else s.profile j := by
  simp [State.profile, State.setProfile, Vector.getElem_set, Fin.ext_iff]

/-! ### Setting what stands at a place changes nothing -/

@[simp] theorem State.setPort_self (i : PortIx) : s.setPort i (s.port i) = s := by
  simp [State.port, State.setPort]
@[simp] theorem State.setLane_self (i : LaneIx) : s.setLane i (s.lane i) = s := by
  simp [State.lane, State.setLane]
@[simp] theorem State.setAssembler_self (i : LaneIx) : s.setAssembler i (s.assembler i) = s := by
  simp [State.assembler, State.setAssembler]
@[simp] theorem State.setRing_self (i : LaneIx) : s.setRing i (s.ring i) = s := by
  simp [State.ring, State.setRing]
@[simp] theorem State.setZero_self (i : LaneIx) : s.setZero i (s.zero i) = s := by
  simp [State.zero, State.setZero]
@[simp] theorem State.setDetector_self (i : LaneIx) : s.setDetector i (s.detector i) = s := by
  simp [State.detector, State.setDetector]
@[simp] theorem State.setProfile_self (i : Fin 4) : s.setProfile i (s.profile i) = s := by
  simp [State.profile, State.setProfile]

/-! ### Mapped updates -/

theorem State.mapDetectors_detector (ls : List LaneIx) (f : Detector → Detector) (l : LaneIx) :
    (s.mapDetectors ls f).detector l = if l ∈ ls then f (s.detector l) else s.detector l := by
  simp [State.detector, State.mapDetectors]

theorem State.mapRings_ring (ls : List LaneIx) (f : Ring → Ring) (l : LaneIx) :
    (s.mapRings ls f).ring l = if l ∈ ls then f (s.ring l) else s.ring l := by
  simp [State.ring, State.mapRings]

theorem State.mapDetectors_nil (f : Detector → Detector) : s.mapDetectors [] f = s := by
  simp [State.mapDetectors, Vector.ofFn_getElem]

end Sys2Proof.Machine
end

