-- ==== Sys2Proof/Laws/Ops.lean ====
section
/-! SUPPORT. What each shared operation can do, said once: events, notices, record changes, folds over lanes and ports. -/

namespace Sys2Proof.Machine

/-! ### live -/

/-- A command on the running part answers the state its meaning gives. -/
theorem live_running (f : State → State) {s : State} (h : s.resetHeld = false) : live f s = .next (f s) := by
  simp [live, h]

/-- A command while the reset pin is held changes nothing. -/
theorem live_held (f : State → State) {s : State} (h : s.resetHeld = true) : live f s = .next s := by
  simp [live, h]

/-! ### Events -/

/-- An event arrives at a queue with room. -/
theorem arrive_room (mode : AttnMode) (e : Event) {q : EventQueue} (h : q.list.length < 32) :
    arrive mode e q =
      { q with list := q.list ++ [e], owed := match mode with | .level => q.owed | .pulse => satInc 255 q.owed } := by
  cases mode <;> simp [arrive, h]

/-- An event arrives at a full queue. -/
theorem arrive_full (mode : AttnMode) (e : Event) {q : EventQueue} (h : 32 ≤ q.list.length) :
    arrive mode e q = { q with overflow := true } := by
  simp [arrive, Nat.not_lt.mpr h]

/-- An arrival leaves the pulse under way as it is. -/
@[simp] theorem arrive_pulse (mode : AttnMode) (e : Event) (q : EventQueue) : (arrive mode e q).pulse = q.pulse := by
  unfold arrive; split <;> rfl

/-- An arrival leaves the mark of a pulse begun in this tick as it is. -/
@[simp] theorem arrive_pulseThisTick (mode : AttnMode) (e : Event) (q : EventQueue) :
    (arrive mode e q).pulseThisTick = q.pulseThisTick := by
  unfold arrive; split <;> rfl

/-- An arrival keeps the queue within 32 events. -/
theorem arrive_length_le (mode : AttnMode) (e : Event) {q : EventQueue} (h : q.list.length ≤ 32) :
    (arrive mode e q).list.length ≤ 32 := by
  unfold arrive; split <;> simp <;> omega

/-- The events held before an arrival are the first of those held after it. -/
theorem arrive_keeps (mode : AttnMode) (e : Event) (q : EventQueue) : q.list <+: (arrive mode e q).list := by
  unfold arrive; split <;> simp

/-! ### Change notices and record changes -/

/-- A notice writes the reservation alone. -/
theorem notice_eq (id : Nat) (s : State) :
    notice id s = { s with reservation := if s.reservation = some id then none else s.reservation } := by
  unfold notice; split <;> simp [*]

/-- A notice on an id that is not reserved changes nothing. -/
theorem notice_other {id : Nat} {s : State} (h : s.reservation ≠ some id) : notice id s = s := by
  simp [notice, h]

/-- A record change writes the record of its id, and clears the reservation exactly when something changed and that id was reserved. -/
theorem changeRecord_eq (id : Nat) (f : Record → Record) (s : State) :
    changeRecord id f s =
      { s with
        seq := { s.seq with history := s.seq.history.map fun r => if r.id = id then f r else r },
        reservation := if (s.seq.history.map fun r => if r.id = id then f r else r) = s.seq.history then s.reservation
                       else if s.reservation = some id then none else s.reservation } := by
  simp only [changeRecord]
  split
  · next h => rw [h]
  · simp [notice_eq]

/-- The history after a record change. -/
@[simp] theorem changeRecord_history (id : Nat) (f : Record → Record) (s : State) :
    (changeRecord id f s).seq.history = s.seq.history.map fun r => if r.id = id then f r else r := by
  simp [changeRecord_eq]

@[simp] theorem changeRecord_nextId (id : Nat) (f : Record → Record) (s : State) :
    (changeRecord id f s).seq.nextId = s.seq.nextId := by simp [changeRecord_eq]
@[simp] theorem changeRecord_clock (id : Nat) (f : Record → Record) (s : State) : (changeRecord id f s).clock = s.clock := by
  simp [changeRecord_eq]
@[simp] theorem changeRecord_pins (id : Nat) (f : Record → Record) (s : State) : (changeRecord id f s).pins = s.pins := by
  simp [changeRecord_eq]
@[simp] theorem changeRecord_resetHeld (id : Nat) (f : Record → Record) (s : State) :
    (changeRecord id f s).resetHeld = s.resetHeld := by simp [changeRecord_eq]
@[simp] theorem changeRecord_started (id : Nat) (f : Record → Record) (s : State) : (changeRecord id f s).started = s.started := by
  simp [changeRecord_eq]
@[simp] theorem changeRecord_pistol (id : Nat) (f : Record → Record) (s : State) : (changeRecord id f s).pistol = s.pistol := by
  simp [changeRecord_eq]
@[simp] theorem changeRecord_driver (id : Nat) (f : Record → Record) (s : State) : (changeRecord id f s).driver = s.driver := by
  simp [changeRecord_eq]
@[simp] theorem changeRecord_ports (id : Nat) (f : Record → Record) (s : State) : (changeRecord id f s).ports = s.ports := by
  simp [changeRecord_eq]
@[simp] theorem changeRecord_laneMap (id : Nat) (f : Record → Record) (s : State) : (changeRecord id f s).laneMap = s.laneMap := by
  simp [changeRecord_eq]
@[simp] theorem changeRecord_profiles (id : Nat) (f : Record → Record) (s : State) :
    (changeRecord id f s).profiles = s.profiles := by simp [changeRecord_eq]
@[simp] theorem changeRecord_line (id : Nat) (f : Record → Record) (s : State) : (changeRecord id f s).line = s.line := by
  simp [changeRecord_eq]
@[simp] theorem changeRecord_assemblers (id : Nat) (f : Record → Record) (s : State) :
    (changeRecord id f s).assemblers = s.assemblers := by simp [changeRecord_eq]
@[simp] theorem changeRecord_rings (id : Nat) (f : Record → Record) (s : State) : (changeRecord id f s).rings = s.rings := by
  simp [changeRecord_eq]
@[simp] theorem changeRecord_zeros (id : Nat) (f : Record → Record) (s : State) : (changeRecord id f s).zeros = s.zeros := by
  simp [changeRecord_eq]
@[simp] theorem changeRecord_detectors (id : Nat) (f : Record → Record) (s : State) :
    (changeRecord id f s).detectors = s.detectors := by simp [changeRecord_eq]
@[simp] theorem changeRecord_host (id : Nat) (f : Record → Record) (s : State) : (changeRecord id f s).host = s.host := by
  simp [changeRecord_eq]
@[simp] theorem changeRecord_events (id : Nat) (f : Record → Record) (s : State) : (changeRecord id f s).events = s.events := by
  simp [changeRecord_eq]
@[simp] theorem changeRecord_store (id : Nat) (f : Record → Record) (s : State) : (changeRecord id f s).store = s.store := by
  simp [changeRecord_eq]
@[simp] theorem changeRecord_pending (id : Nat) (f : Record → Record) (s : State) : (changeRecord id f s).pending = s.pending := by
  simp [changeRecord_eq]

/-! ### Folds over lanes and ports -/

/-- What every step of a fold over lanes keeps, the fold keeps. -/
theorem forLanes_induct {P : State → Prop} {f : LaneIx → State → State} (ls : List LaneIx) {s : State} (h0 : P s)
    (hs : ∀ l ∈ ls, ∀ t, P t → P (f l t)) : P (forLanes ls f s) := by
  induction ls generalizing s with
  | nil => exact h0
  | cons l ls ih => exact ih (hs l (by simp) s h0) fun k hk => hs k (by simp [hk])

/-- What every step of a fold over ports keeps, the fold keeps. -/
theorem forPorts_induct {P : State → Prop} {f : PortIx → State → State} (ps : List PortIx) {s : State} (h0 : P s)
    (hs : ∀ p ∈ ps, ∀ t, P t → P (f p t)) : P (forPorts ps f s) := by
  induction ps generalizing s with
  | nil => exact h0
  | cons p ps ih => exact ih (hs p (by simp) s h0) fun k hk => hs k (by simp [hk])

/-- A fold over lanes none of which changes the state leaves it. -/
theorem forLanes_fixed {f : LaneIx → State → State} (ls : List LaneIx) {s : State} (h : ∀ l ∈ ls, f l s = s) :
    forLanes ls f s = s :=
  forLanes_induct (P := fun t => t = s) ls rfl fun l hl t ht => by rw [ht, h l hl]

/-- A fold over ports none of which changes the state leaves it. -/
theorem forPorts_fixed {f : PortIx → State → State} (ps : List PortIx) {s : State} (h : ∀ p ∈ ps, f p s = s) :
    forPorts ps f s = s :=
  forPorts_induct (P := fun t => t = s) ps rfl fun p hp t ht => by rw [ht, h p hp]

/-- Every lane is among the ten. -/
theorem mem_allLanes (l : LaneIx) : l ∈ allLanes := by revert l; decide

/-- Every port is among the twelve. -/
theorem mem_allPorts (p : PortIx) : p ∈ allPorts := by revert p; decide

/-- Every channel is among the four. -/
theorem mem_allChans (c : Chan) : c ∈ allChans := by revert c; decide

end Sys2Proof.Machine
end

