-- ==== Sys2Proof/Laws/Clock.lean ====
section
/-! SUPPORT. What a tick takes when nothing is due, and what its upsets do. -/

namespace Sys2Proof.Machine

/-- With nothing due, a tick takes nothing before it (R4). -/
theorem takeDue_nothing {s : State} (h : NothingDue s) : takeDue s = s := by
  have h1 : pistolEdgeStep s = s := by simp [pistolEdgeStep, h.sample]
  have h2 : shotAcceptedStep s = s := by unfold shotAcceptedStep; cases hu : s.pistol.unit <;> simp [h.sample]
  have h3 : glitchStep s = s := by unfold glitchStep; cases hu : s.pistol.unit <;> simp [h.sample]
  have h4 : pistolHoldEndStep s = s := by
    unfold pistolHoldEndStep; rw [if_neg]; rintro ⟨a, b⟩; exact h.hold a b
  have h5 : ∀ p, presenceInactiveStep p (presenceActiveStep p s) = s := by
    intro p
    have : presenceDue s p = false := by simp [presenceDue, h.presence p]
    have e : presenceActiveStep p s = s := by simp [presenceActiveStep, this]
    rw [e]; simp [presenceInactiveStep, this]
  have h5' := forPorts_fixed (f := fun p t => presenceInactiveStep p (presenceActiveStep p t)) allPorts (s := s) (fun p _ => h5 p)
  have h6 : ∀ p, breakEndStep p s = s := by intro p; simp [breakEndStep, h.breaks p]
  have h7 : ∀ p, silenceEndStep p s = s := by intro p; simp [silenceEndStep, h.silence p]
  have h8 : ∀ p, helloWaitEndStep p s = s := by intro p; simp [helloWaitEndStep, h.helloWait p]
  have h9 : recallPulseEndStep s = s := by simp [recallPulseEndStep, h.pulse]
  have h10 : ∀ l, zeroTimeoutStep l s = s := by
    intro l; unfold zeroTimeoutStep
    cases hz : s.zero l with
    | none => rfl
    | some z => simp [h.zeros l z hz]
  have h11 : settleEndStep s = s := by simp [settleEndStep, h.settle]
  have h12 : windowCloseStep s = s := by simp [windowCloseStep, h.window]
  have h13 : recallShotEndStep s = s := by simp [recallShotEndStep, h.recallShot]
  have h14 : ∀ l, heldAgeEndStep l s = s := by intro l; simp [heldAgeEndStep, h.heldAge l]
  have h15 : loadDeadlineStep s = s := by simp [loadDeadlineStep, h.store]
  have h16 : saveDeadlineStep s = s := by unfold saveDeadlineStep; cases s.store.job <;> simp [h.store]
  have h17 : replyAbandonedStep s = s := by
    unfold replyAbandonedStep
    cases ht : s.host.tx with
    | waiting r lim =>
      have : lim ≠ s.clock := by rintro rfl; exact h.reply r ht
      simp [this]
    | _ => rfl
  simp only [takeDue, h1, h2, h3, h4, h5', forPorts_fixed allPorts (fun p _ => h6 p),
    forPorts_fixed allPorts (fun p _ => h7 p), forPorts_fixed allPorts (fun p _ => h8 p), h9, forLanes_fixed allLanes (fun l _ => h10 l),
    h11, h12, h13, forLanes_fixed allLanes (fun l _ => h14 l), h15, h16, h17]

/-- What the upsets of a tick do: the entries named fail their checks from now on, and nothing else changes (R67). -/
theorem applyUpsets_spec (us : List (LaneIx × Nat)) (s : State) :
    applyUpsets us s = { s with rings := (applyUpsets us s).rings } ∧ ∀ l : LaneIx,
      (applyUpsets us s).rings[l].writeIndex = s.rings[l].writeIndex ∧ (applyUpsets us s).rings[l].count = s.rings[l].count
      ∧ (applyUpsets us s).rings[l].frozenBy = s.rings[l].frozenBy
      ∧ ∀ i, (applyUpsets us s).rings[l].slots[i]? = s.rings[l].slots[i]?.map fun w => if (l, i) ∈ us then { w with intact := false } else w := by
  induction us generalizing s with
  | nil => refine ⟨rfl, fun l => ⟨rfl, rfl, rfl, fun i => ?_⟩⟩; simp [applyUpsets]
  | cons u us ih =>
    obtain ⟨k, j⟩ := u
    have e : applyUpsets ((k, j) :: us) s = applyUpsets us (s.setRing k ((s.ring k).upset j)) := rfl
    obtain ⟨a, b⟩ := ih (s.setRing k ((s.ring k).upset j))
    rw [e]
    refine ⟨by rw [a]; rfl, fun l => ?_⟩
    obtain ⟨b1, b2, b3, b4⟩ := b l
    by_cases hk : k = l
    · subst hk
      refine ⟨by rw [b1]; simp [State.setRing, Ring.upset, State.ring], by rw [b2]; simp [State.setRing, Ring.upset, State.ring], by rw [b3]; simp [State.setRing, Ring.upset, State.ring], fun i => ?_⟩
      rw [b4]
      simp only [State.setRing, Ring.upset, State.ring, Fin.getElem_fin, Vector.getElem_set_self, List.getElem?_modify, List.mem_cons, Prod.mk.injEq, true_and]
      cases s.rings[k.val].slots[i]? with
      | none => simp
      | some w =>
        by_cases hj : j = i
        · subst hj; simp
        · simp [hj, Ne.symm hj]
    · have hv : k.val ≠ l.val := fun h => hk (Fin.ext h)
      have : (s.setRing k ((s.ring k).upset j)).rings[l] = s.rings[l] := by simp [State.setRing, hv]
      rw [this] at b1 b2 b3 b4
      refine ⟨b1, b2, b3, fun i => ?_⟩
      rw [b4]; simp [Ne.symm hk]

end Sys2Proof.Machine
end

