-- ==== Sys2Proof/Laws/Detector.lean ====
section
/-! SUPPORT. What the onset walk does with the entries that it passes. -/

namespace Sys2Proof.Machine

/-- The walk passes a run of older entries that lie above the level, agree with their checks and carry no GAP (R117, R120). -/
theorem walkSteps_pass (r : Ring) (hok : r.Ok) (level : Int) : ∀ (ws : List Slot) (left i p : Nat) (t : Time) (st sa : Bool),
   r.indexAt p = i → p < r.count → ws.length ≤ p → ws.length ≤ left →
   (∀ j (hj : j < ws.length), r.slot (r.indexAt (p - (j + 1))) = some ws[j] ∧ ws[j].intact = true ∧ level < ws[j].entry.force ∧ ws[j].entry.gap = false) →
   walkSteps r level left i p t st sa = walkSteps r level (left - ws.length) (r.indexAt (p - ws.length)) (p - ws.length)
     (match ws.getLast? with | some w => w.entry.time | none => t) (st || ws.any fun w => w.entry.stale) (sa || ws.any fun w => w.entry.sat || w.entry.ovl) := by
  intro ws
  induction ws with
  | nil => intro left i p t st sa hi hp _ _ _; simp [hi]
  | cons w ws ih =>
    intro left i p t st sa hi hp hl1 hl2 hj
    simp only [List.length_cons] at hl1 hl2
    obtain ⟨left, rfl⟩ : ∃ m, left = m + 1 := ⟨left - 1, by omega⟩
    obtain ⟨q, rfl⟩ : ∃ q, p = q + 1 := ⟨p - 1, by omega⟩
    have := hok.size; have := hok.index
    have ho : (i + ringSize - 1) % ringSize = r.indexAt q := by
      rw [← hi]; simp only [Ring.indexAt, ringSize]; omega
    obtain ⟨a, b, c, d⟩ := hj 0 (by simp)
    simp only [Nat.zero_add, Nat.add_sub_cancel, List.getElem_cons_zero] at a b c d
    have stp : walkSteps r level (left + 1) i (q + 1) t st sa = walkSteps r level left (r.indexAt q) q w.entry.time (st || w.entry.stale) (sa || w.entry.sat || w.entry.ovl) := by
      simp only [walkSteps, ho, a]; simp [b, d, not_le.mpr c]
    rw [stp, ih left _ q w.entry.time _ _ rfl (by omega) (by omega) (by omega) (fun j hj' => by
      have := hj (j+1) (by simpa using hj'); rw [show q + 1 - (j + 1 + 1) = q - (j+1) by omega] at this; simpa using this)]
    simp only [List.length_cons, List.any_cons]
    rw [show q + 1 - (ws.length + 1) = q - ws.length by omega, show left + 1 - (ws.length + 1) = left - ws.length by omega]
    rw [← Bool.or_assoc, ← Bool.or_assoc, ← Bool.or_assoc]
    cases ws with
    | nil => simp
    | cons a b => rw [List.getLast?_cons_cons, List.getLast?_cons]

end Sys2Proof.Machine
end

