-- ==== Sys2Proof/Laws/History.lean ====
section
/-! SUPPORT. What the history invariant says of attempt ids (R83), and what a change to the open record, the newest, does (R80). -/

namespace Sys2Proof.Machine

/-- A map changes nothing exactly when it changes no member. -/
theorem map_eq_self {α : Type} {f : α → α} {l : List α} : l.map f = l ↔ ∀ x ∈ l, f x = x := by
  induction l with
  | nil => simp
  | cons a l ih => simp [ih]

/-- The ids of a chain count on from the first, modulo 65 535. -/
theorem ChainedTo.counts_on {n : Nat} (a : Nat) (xs : List Nat) : ChainedTo n (a :: xs) → (∀ x ∈ a :: xs, 1 ≤ x ∧ x ≤ 65535) →
    ∀ j (h : j < (a :: xs).length), (a :: xs)[j] % 65535 = (a + j) % 65535 := by
  induction xs generalizing a with
  | nil =>
    intro _ _ j h
    obtain rfl : j = 0 := by simpa using h
    rfl
  | cons b xs ih =>
    intro hc hr j h
    cases j with
    | zero => rfl
    | succ j =>
      have hb : nextAttemptId a = b := hc.1
      have := ih b hc.2 (fun x hx => hr x (by simp only [List.mem_cons] at hx ⊢; exact .inr hx)) j (by simpa using h)
      rw [List.getElem_cons_succ, this, ← hb]
      have := hr a (by simp)
      simp only [nextAttemptId]; split <;> omega

/-- The ids of a history are distinct (R83, R85). -/
theorem HistoryInv.ids_nodup {s : State} (h : HistoryInv s) : (s.seq.history.map (·.id)).Nodup := by
  have hr : ∀ x ∈ s.seq.history.map (·.id), 1 ≤ x ∧ x ≤ 65535 := by
    intro x hx; obtain ⟨r, hm, rfl⟩ := List.mem_map.mp hx; exact h.ids r hm
  have hl : (s.seq.history.map (·.id)).length ≤ 8 := by simpa using h.size
  have hc := h.chain
  revert hr hl hc
  generalize s.seq.history.map (·.id) = xs
  intro hr hl hc
  cases xs with
  | nil => exact .nil
  | cons a xs =>
    rw [List.nodup_iff_injective_get]
    intro i j hij
    have h1 := ChainedTo.counts_on a xs hc hr i i.2
    have h2 := ChainedTo.counts_on a xs hc hr j j.2
    simp only [List.get_eq_getElem] at hij
    rw [hij, h2] at h1
    have := i.2; have := j.2
    exact Fin.ext (by omega)

/-- Two records of one id are one record. -/
theorem HistoryInv.eq_of_id {s : State} (h : HistoryInv s) {a b : Record} (ha : a ∈ s.seq.history) (hb : b ∈ s.seq.history)
    (hid : a.id = b.id) : a = b := List.inj_on_of_nodup_map h.ids_nodup ha hb hid

/-- The open record is held, and is open. -/
theorem openRecord_mem {s : State} {r : Record} (h : openRecord s = some r) : r ∈ s.seq.history := List.mem_of_find?_eq_some h

theorem openRecord_open {s : State} {r : Record} (h : openRecord s = some r) : r.isOpen = true := by simpa using List.find?_some h

/-- The open record stands last in the history, every record before it closed and of another id. -/
structure NewestOpen (pre : List Record) (r : Record) (s : State) : Prop where
  history : s.seq.history = pre ++ [r]
  closed  : ∀ x ∈ pre, x.isOpen = false
  isOpen  : r.isOpen = true
  ids     : ∀ x ∈ pre, x.id ≠ r.id

/-- With the history invariant, an open record is the newest. -/
theorem HistoryInv.newestOpen {s : State} {r : Record} (h : HistoryInv s) (ho : openRecord s = some r) :
    NewestOpen s.seq.history.dropLast r s := by
  have hm := openRecord_mem ho
  have hne : s.seq.history ≠ [] := by rintro e; rw [e] at hm; cases hm
  have hl := List.dropLast_append_getLast hne
  have hr : s.seq.history.getLast hne = r := by
    by_contra hc
    have : r ∈ s.seq.history.dropLast := by
      have hm' := hm; rw [← hl, List.mem_append] at hm'
      rcases hm' with h1 | h1
      · exact h1
      · exact absurd (by simpa using h1 : r = _).symm hc
    have := h.closed r this
    rw [openRecord_open ho] at this; cases this
  rw [hr] at hl
  refine ⟨hl.symm, h.closed, openRecord_open ho, ?_⟩
  have nd := h.ids_nodup
  rw [← hl, List.map_append, List.nodup_append] at nd
  exact fun x hx => nd.2.2 x.id (List.mem_map_of_mem hx) r.id (by simp)

theorem NewestOpen.openRecord {pre : List Record} {r : Record} {s : State} (h : NewestOpen pre r s) : openRecord s = some r := by
  unfold Sys2Proof.Machine.openRecord
  rw [h.history, List.find?_append, List.find?_eq_none.mpr (fun x hx => by simp [h.closed x hx])]; simp [h.isOpen]

/-- A change to the open record changes the last record of the history alone. -/
theorem NewestOpen.changed {pre : List Record} {r : Record} {s : State} (h : NewestOpen pre r s) (f : Record → Record) :
    (changeRecord r.id f s).seq.history = pre ++ [f r] := by
  rw [changeRecord_history, h.history, List.map_append]
  congr 1
  · exact map_eq_self.mpr fun x hx => by simp [h.ids x hx]
  · simp

/-- A change that keeps the id and leaves the record open keeps it the open record. -/
theorem NewestOpen.change {pre : List Record} {r : Record} {s : State} (h : NewestOpen pre r s) (f : Record → Record)
    (hid : (f r).id = r.id) (ho : (f r).isOpen = true) : NewestOpen pre (f r) (changeRecord r.id f s) :=
  ⟨h.changed f, h.closed, ho, fun x hx => by rw [hid]; exact h.ids x hx⟩

/-- The record of the last id of a history. -/
theorem recordOf_last {pre : List Record} {r : Record} {s : State} (h : s.seq.history = pre ++ [r]) (hi : ∀ x ∈ pre, x.id ≠ r.id) :
    recordOf s r.id = some r := by
  unfold recordOf; rw [h, List.find?_append, List.find?_eq_none.mpr (fun x hx => by simp [hi x hx])]; simp

/-- The record of any other id. -/
theorem recordOf_before {pre : List Record} {r : Record} {s : State} {id : Nat} (h : s.seq.history = pre ++ [r]) (hi : id ≠ r.id) :
    recordOf s id = pre.find? (·.id = id) := by
  unfold recordOf; rw [h, List.find?_append]; simp [Ne.symm hi]

end Sys2Proof.Machine
end

