-- ==== Sys2Proof/Laws/Link.lean ====
section
/-! SUPPORT. What a link reset does to a port (R28), and what a stream-ended notice can change (R126). -/

namespace Sys2Proof.Machine

/-- The port after a link reset, in closed form (R28). -/
theorem Port.linkReset_eq (now : Time) (x : Port) : x.linkReset now =
    { x.forget with
      sending := if x.link = .streaming then some (x.sending.getD .streamOff) else x.sending,
      queue := if x.link = .streaming ∧ x.sending ≠ none then [.streamOff] else [],
      brk := if x.link ≠ .streaming ∧ x.sending = none then .low (tadd now 1) else .waits,
      helloWaitEnd := some (tadd now 5000), silenceEnd := none, streamingSince := none, link := .linking } := by
  obtain ⟨link, a1, a2, a3, a4, a5, a6, a7, a8, a9, a10, a11, a12, a13, a14, a15, a16, a17, snd, inb⟩ := x
  cases snd <;> by_cases h : link = .streaming <;> simp [Port.linkReset, Port.forget, beginNext, beginBreak, h]

/-- Two states that differ in the detectors, the sequencer and the reservation alone: what a report to the verdict unit may change. -/
structure OnlyRecords (s t : State) : Prop where
  clock      : t.clock = s.clock
  pins       : t.pins = s.pins
  resetHeld  : t.resetHeld = s.resetHeld
  started    : t.started = s.started
  pistol     : t.pistol = s.pistol
  driver     : t.driver = s.driver
  ports      : t.ports = s.ports
  laneMap    : t.laneMap = s.laneMap
  profiles   : t.profiles = s.profiles
  line       : t.line = s.line
  assemblers : t.assemblers = s.assemblers
  rings      : t.rings = s.rings
  zeros      : t.zeros = s.zeros
  host       : t.host = s.host
  events     : t.events = s.events
  store      : t.store = s.store
  pending    : t.pending = s.pending

theorem OnlyRecords.refl (s : State) : OnlyRecords s s := by constructor <;> rfl

theorem OnlyRecords.trans {a b c : State} (h1 : OnlyRecords a b) (h2 : OnlyRecords b c) : OnlyRecords a c := by
  cases h1; cases h2; constructor <;> simp_all

theorem OnlyRecords.changeRecord (id : Nat) (f : Record → Record) (s : State) : OnlyRecords s (changeRecord id f s) := by
  constructor <;> simp

theorem OnlyRecords.setDetector (s : State) (l : LaneIx) (d : Detector) : OnlyRecords s (s.setDetector l d) := by constructor <;> rfl

theorem OnlyRecords.reportFlags (l : LaneIx) (f : LaneFlags) (s : State) : OnlyRecords s (reportFlags l f s) := by
  unfold Sys2Proof.Machine.reportFlags; split
  · exact .refl _
  · exact .changeRecord _ _ _

theorem OnlyRecords.reportUnsure (l : LaneIx) (f : LaneFlags) (s : State) : OnlyRecords s (reportUnsure l f s) := by
  unfold Sys2Proof.Machine.reportUnsure; split
  · exact .refl _
  · split
    · exact .changeRecord _ _ _
    · exact .reportFlags _ _ _

theorem OnlyRecords.reportBaseline (l : LaneIx) (b : Baseline) (shortBase sat : Bool) (s : State) :
    OnlyRecords s (reportBaseline l b shortBase sat s) := by
  unfold Sys2Proof.Machine.reportBaseline; split
  · exact .refl _
  · exact .changeRecord _ _ _

theorem OnlyRecords.reportWatchEnded (l : LaneIx) (s : State) : OnlyRecords s (reportWatchEnded l s) := by
  unfold Sys2Proof.Machine.reportWatchEnded; split
  · exact .refl _
  · split
    · exact .changeRecord _ _ _
    · exact .refl _

/-- A stream-ended notice changes the lane's detector and the open record alone (R126). -/
theorem OnlyRecords.streamEnded (l : LaneIx) (s : State) : OnlyRecords s (streamEnded l s) := by
  have flags := fun d f => (OnlyRecords.setDetector s l d).trans (.reportFlags l f _)
  have unsure := fun d f => (OnlyRecords.setDetector s l d).trans (.reportUnsure l f _)
  unfold Sys2Proof.Machine.streamEnded; simp only
  repeat' split
  all_goals first | exact flags _ _ | exact unsure _ _ | exact .refl _

/-- The stream-ended notice of a port that leaves STREAMING changes a detector and the open record alone (R36). -/
theorem OnlyRecords.portStreamEnded (p : PortIx) (lane : Option LaneIx) (s : State) : OnlyRecords s (portStreamEnded p lane s) := by
  unfold Sys2Proof.Machine.portStreamEnded; split
  · split
    · exact .streamEnded _ _
    · exact .refl _
  · exact .refl _

end Sys2Proof.Machine
end

