-- ==== Sys2Proof/Laws/LinkFrames.lean ====
section
/-! SUPPORT. The four bytes of a lane link frame give back its fields (section 12.7), and what the reception of four bytes does (R21,
R22). -/

namespace Sys2Proof.Machine

/-- A byte with its proper parity and stop bits has no error. -/
theorem linkError_linkByteOf (d : Byte) : linkError (linkByteOf d) = false := by
  simp only [linkError, linkByteOf]; cases onesOdd d <;> rfl

/-- The first byte's marker and the fields it carries. -/
theorem linkByte0_fields : ∀ (st : Bool) (sel : BitVec 2) (sq : BitVec 4),
    ((1#1 ++ BitVec.ofBool st ++ sel ++ sq : Byte).msb = true) ∧ (1#1 ++ BitVec.ofBool st ++ sel ++ sq : Byte).getLsbD 6 = st
      ∧ (1#1 ++ BitVec.ofBool st ++ sel ++ sq : Byte).extractLsb' 4 2 = sel
      ∧ (1#1 ++ BitVec.ofBool st ++ sel ++ sq : Byte).extractLsb' 0 4 = sq := by decide +kernel

/-- The marker and the seven value bits of the second and third bytes. -/
theorem linkByte12_fields : ∀ (x : BitVec 7), (0#1 ++ x : Byte).msb = false ∧ (0#1 ++ x : Byte).extractLsb' 0 7 = x := by
  decide +kernel

/-- The marker and the fields of the fourth byte. -/
theorem linkByte3_fields : ∀ (x : BitVec 2) (o : Bool) (c : BitVec 4),
    (0#1 ++ x ++ BitVec.ofBool o ++ c : Byte).msb = false ∧ (0#1 ++ x ++ BitVec.ofBool o ++ c : Byte).extractLsb' 5 2 = x
      ∧ (0#1 ++ x ++ BitVec.ofBool o ++ c : Byte).getLsbD 4 = o := by decide +kernel

/-- A value is made of its top seven, middle seven and lowest two bits. -/
theorem value_of_parts (v : BitVec 16) : (v.extractLsb' 9 7 ++ v.extractLsb' 2 7 ++ v.extractLsb' 0 2 : BitVec 16) = v := by
  apply BitVec.eq_of_getLsbD_eq
  intro i hi
  rw [BitVec.getLsbD_append, BitVec.getLsbD_append]
  interval_cases i <;> simp

theorem linkByte0_msb (f : LinkFields) : (linkByte0 f).msb = true := (linkByte0_fields _ _ _).1
theorem linkByte1_msb (f : LinkFields) : (linkByte1 f).msb = false := (linkByte12_fields _).1
theorem linkByte2_msb (f : LinkFields) : (linkByte2 f).msb = false := (linkByte12_fields _).1
theorem linkByte3_msb (f : LinkFields) (c : BitVec 4) : (linkByte3 f c).msb = false := (linkByte3_fields _ _ _).1

theorem hiHalf_append (a b : BitVec 4) : hiHalf (a ++ b) = a := by revert a b; decide +kernel
theorem loHalf_append (a b : BitVec 4) : loHalf (a ++ b) = b := by revert a b; decide +kernel

/-- The check of a frame written from its fields agrees (section 12.7). -/
theorem linkCheckAgrees_fields (f : LinkFields) :
    linkCheckAgrees (linkByte0 f) (linkByte1 f) (linkByte2 f) (linkByte3 f (linkFieldsCheck f)) = true := by
  simp [linkCheckAgrees, linkFieldsCheck, linkCheck, linkByte3, hiHalf_append, loHalf_append]

/-- The fields read from a frame are those it was written from (section 12.7). -/
theorem linkFields_frame (f : LinkFields) :
    linkFields (linkByte0 f) (linkByte1 f) (linkByte2 f) (linkByte3 f (linkFieldsCheck f)) = f := by
  have h0 := linkByte0_fields f.status f.selector f.sequence
  have h1 := linkByte12_fields (f.value.extractLsb' 9 7)
  have h2 := linkByte12_fields (f.value.extractLsb' 2 7)
  have h3 := linkByte3_fields (f.value.extractLsb' 0 2) f.overload (linkFieldsCheck f)
  obtain ⟨st, sel, sq, v, o⟩ := f
  simp only [linkFields, linkByte0, linkByte1, linkByte2, linkByte3, linkHalf3] at *
  rw [h0.2.1, h0.2.2.1, h0.2.2.2, h1.2, h2.2, h3.2.1, h3.2.2, value_of_parts]

/-- The inbound frame of a port after it has been set. -/
theorem setInbound_port (p : PortIx) (i : Inbound) (s : State) : (setInbound p i s).port p = { s.port p with inbound := i } := by
  simp [setInbound, State.port]

/-- Of two settings of an inbound frame the later one stands. -/
theorem setInbound_twice (p : PortIx) (i j : Inbound) (s : State) : setInbound p i (setInbound p j s) = setInbound p i s := by
  simp [setInbound, State.port, State.setPort]

/-- Setting the inbound frame that a port already has changes nothing. -/
theorem setInbound_self {p : PortIx} {i : Inbound} {s : State} (h : (s.port p).inbound = i) : setInbound p i s = s := by
  subst h
  have hp : s.ports.set p s.ports[p] = s.ports := by
    apply Vector.ext; intro i hi; simp
  simp only [setInbound, State.setPort, State.port]
  rw [show ({ s.ports[p] with inbound := s.ports[p].inbound } : Port) = s.ports[p] from rfl, hp]

/-- Four bytes, the first alone with its marker set, that meet a port with no inbound frame, make one complete frame (R21). -/
theorem linkReceive_frame (p : PortIx) (s : State) (b0 b1 b2 b3 : RxByte) (early : Bool) (hlink : (s.port p).link ≠ .absent)
    (hin : (s.port p).inbound = inboundEmpty) (h0 : b0.data.msb = true) (h1 : b1.data.msb = false) (h2 : b2.data.msb = false)
    (h3 : b3.data.msb = false) :
    linkReceive p { bytes := [b0, b1, b2, b3], early := early } s =
      frameComplete p ([b0, b1, b2, b3].any linkError) (early || beforeBreakEnd s.clock (s.port p)) b0.data b1.data b2.data b3.data s := by
  have e0 : linkByte p early b0 s =
      setInbound p { bytes := [b0.data], error := linkError b0, early := early || beforeBreakEnd s.clock (s.port p) } s := by
    simp [linkByte, hlink, h0, hin, inboundEmpty, beginFrame]
  simp only [linkReceive, List.foldl_cons, List.foldl_nil, e0]
  simp only [linkByte, hlink, if_false, h1, h2, h3, setInbound_port, List.cons_append, List.nil_append, setInbound_twice,
    setInbound_self hin, Bool.false_eq_true]
  simp [Bool.or_assoc]

/-- The sound bytes of a frame's fields that meet a port with no inbound frame and no break are taken as a valid frame (R22). -/
theorem linkReceive_fields (p : PortIx) (s : State) (f : LinkFields) (hlink : (s.port p).link ≠ .absent)
    (hin : (s.port p).inbound = inboundEmpty) (hb : (s.port p).brk = .clear) :
    linkReceive p (linkRxOf f) s = validFrame p (linkUse f) s := by
  have := linkReceive_frame p s (linkByteOf (linkByte0 f)) (linkByteOf (linkByte1 f)) (linkByteOf (linkByte2 f))
    (linkByteOf (linkByte3 f (linkFieldsCheck f))) false hlink hin (linkByte0_msb f) (linkByte1_msb f) (linkByte2_msb f)
    (linkByte3_msb f _)
  have data : ∀ d, (linkByteOf d).data = d := fun _ => rfl
  rw [show linkRxOf f = { bytes := [linkByteOf (linkByte0 f), linkByteOf (linkByte1 f), linkByteOf (linkByte2 f),
    linkByteOf (linkByte3 f (linkFieldsCheck f))], early := false } from rfl, this]
  simp [beforeBreakEnd, hb, frameComplete, linkError_linkByteOf, data, linkCheckAgrees_fields, linkFields_frame]

end Sys2Proof.Machine
end

