-- ==== Sys2Proof/Laws/Requests.lean ====
section
/-! SUPPORT. What a request can do: the common refusals, the taking of an addressed or broadcast request, and the commands of the twenty
kinds. -/

namespace Sys2Proof.Machine

/-- Setting the receive state a state already has changes nothing. -/
theorem setRx_self {s : State} {x : RxState} (h : s.host.rx = x) : setRx x s = s := by
  subst h; rfl

/-- A request of an unknown kind is refused (R173). -/
theorem serveRequest_unknown {code : Byte} (payload : List Byte) (s : State) (h : kindOfCode code = none) :
    serveRequest code payload s = refuse s .unknownKind := by
  simp [serveRequest, h]

/-- A request of the wrong length is refused (R173). -/
theorem serveRequest_length {code : Byte} {k : Kind} {payload : List Byte} (s : State) (h : kindOfCode code = some k)
    (hl : payload.length ≠ k.length) : serveRequest code payload s = refuse s .badLength := by
  simp [serveRequest, h, hl]

/-- A request other than STATUS is refused while the store is LOADING (R173). -/
theorem serveRequest_loading {code : Byte} {k : Kind} {payload : List Byte} {s : State} (h : kindOfCode code = some k)
    (hl : payload.length = k.length) (hs : s.store.state = .loading) (hk : k ≠ .status) :
    serveRequest code payload s = refuse s .busy := by
  simp [serveRequest, h, hl, hs, hk]

/-- A request that passes the common tests is its owner's (R173). -/
theorem serveRequest_owner {code : Byte} {k : Kind} {payload : List Byte} {s : State} (h : kindOfCode code = some k)
    (hl : payload.length = k.length) (hs : s.store.state ≠ .loading ∨ k = .status) :
    serveRequest code payload s = serveKind k payload s := by
  have : ¬(s.store.state = .loading ∧ k ≠ .status) := by tauto
  simp [serveRequest, h, hl, this]

/-- The code of each kind names it. -/
theorem kindOfCode_code (k : Kind) : kindOfCode k.code = some k := by cases k <;> rfl

/-- Taking a request addressed to this station, no RESTART being under way (R173, R176). -/
theorem requestArrives_takes {s : State} {r : Request} (code : Byte) (h : Takes s r) (hl : r.payload.length ≤ 200) :
    requestArrives code r s =
      { (serveRequest code r.payload s).state with
        host := { (serveRequest code r.payload s).state.host with
          tx := .waiting { tag := r.tag, kind := code, status := (serveRequest code r.payload s).status,
                           payload := (serveRequest code r.payload s).payload } (replyLimit s.clock),
          restartPending := isRestart code (serveRequest code r.payload s) } } := by
  obtain ⟨_, hrx, hde, ha, hb, hp⟩ := h
  have hr : readyToReceive s = true := by simp [readyToReceive, hrx, hde]
  have hadd : addressed s r.address = true := by simp [addressed, ha]
  have hbf : decide (r.address ≠ 31#8) = true := by simp [hb]
  rw [requestArrives, if_pos ⟨hr, hadd, hl⟩, requestTaken, setRx_self hrx]
  simp only [hp, hb, txAfter, hbf, Bool.and_true, Bool.false_eq_true, and_false, or_self, if_false]

/-- A kind other than RESTART is no RESTART. -/
theorem isRestart_kind {k : Kind} (r : Served) (h : k ≠ .restart) : isRestart k.code r = false := by
  cases k <;> first | (exact absurd rfl h) | rfl

/-- The length of every request payload can be carried by a frame. -/
theorem Kind.length_le (k : Kind) : k.length ≤ 200 := by cases k <;> decide

/-- A request of a known kind other than RESTART that reaches its owner (R173, R176). -/
theorem requestArrives_owner {s : State} {r : Request} {k : Kind} (h : Takes s r) (hk : k ≠ .restart)
    (hl : r.payload.length = k.length) (hs : s.store.state ≠ .loading ∨ k = .status) :
    requestArrives k.code r s =
      { (serveKind k r.payload s).state with
        host := { (serveKind k r.payload s).state.host with
          tx := .waiting { tag := r.tag, kind := k.code, status := (serveKind k r.payload s).status,
                           payload := (serveKind k r.payload s).payload } (replyLimit s.clock),
          restartPending := false } } := by
  rw [requestArrives_takes k.code h (hl ▸ k.length_le), serveRequest_owner (kindOfCode_code k) hl hs, isRestart_kind _ hk]

/-- Each request command is the arrival of its frame. -/
theorem exec_request {c : Instr} {code : Byte} {r : Request} (h : requestOf c = some (code, r)) (s : State) :
    exec c s = live (requestArrives code r) s := by
  cases c <;> simp_all [requestOf] <;> (obtain ⟨rfl, rfl⟩ := h; rfl)

/-- A request command of a known kind other than RESTART, taken by its owner (R173, R176). -/
theorem exec_request_served {c : Instr} {r : Request} {s : State} {k : Kind} (h : requestOf c = some (k.code, r)) (hs : Takes s r)
    (hl : r.payload.length = k.length) (hk : k ≠ .restart) (hw : s.store.state ≠ .loading ∨ k = .status) :
    exec c s = .next
      { (serveKind k r.payload s).state with
        host := { (serveKind k r.payload s).state.host with
          tx := .waiting { tag := r.tag, kind := k.code, status := (serveKind k r.payload s).status,
                           payload := (serveKind k r.payload s).payload } (replyLimit s.clock),
          restartPending := false } } := by
  rw [exec_request h, live_running _ hs.1, requestArrives_owner hs hk hl hw]

/-- A request command that its owner refuses changes nothing but the reply that waits. -/
theorem exec_request_refused {c : Instr} {r : Request} {s : State} {k : Kind} {st : Status} (h : requestOf c = some (k.code, r))
    (hs : Takes s r) (hl : r.payload.length = k.length) (hk : k ≠ .restart) (hw : s.store.state ≠ .loading ∨ k = .status)
    (e : serveKind k r.payload s = refuse s st) : exec c s = .next { s with host := answered s r k.code st [] } := by
  obtain ⟨_, _, _, _, _, hp⟩ := id hs
  rw [exec_request_served h hs hl hk hw, e]
  simp [refuse, answered, ← hp]

/-- A request command that its owner accepts has the owner's effect, and its reply waits. -/
theorem exec_request_accepted {c : Instr} {r : Request} {s t : State} {k : Kind} {payload : List Byte}
    (h : requestOf c = some (k.code, r)) (hs : Takes s r) (hl : r.payload.length = k.length) (hk : k ≠ .restart)
    (hw : s.store.state ≠ .loading ∨ k = .status) (e : serveKind k r.payload s = accepted t payload) (eh : t.host = s.host) :
    exec c s = .next { t with host := answered s r k.code .ok payload } := by
  obtain ⟨_, _, _, _, _, hp⟩ := id hs
  rw [exec_request_served h hs hl hk hw, e]
  simp [accepted, answered, eh, ← hp]

end Sys2Proof.Machine
end

