-- ==== Sys2Proof/Laws/Verdict.lean ====
section
/-! SUPPORT. What the judge report of the verdict unit does to the state (R139, R140, R145 to R147). -/

namespace Sys2Proof.Machine

/-- The open record after a judgement of lane `l` (R139, R140, R147). -/
def judgedRecord (l : LaneIx) (onset : Time) (rt : Int) (f : LaneFlags) (s : State) (r : Record) : Record :=
  let r1 := r.onLane l fun x =>
    { x with verdict := if rt < s.line.reactionLimit then .falseStart else .fair, onset := some onset, rt := some rt, flags := x.flags.union f }
  { r1 with falseList := if rt < s.line.reactionLimit then insertFalse r1.results l onset r.falseList else r.falseList,
            recallPulse := if rt < s.line.reactionLimit ∧ r.state = .running ∧ s.line.autoRecall = true ∧ r.recallPulse = none then some s.clock else r.recallPulse }

/-- A step that leaves the history as it is keeps the open record. -/
theorem NewestOpen.of_history {pre r} {s t : State} (h : NewestOpen pre r s) (e : t.seq.history = s.seq.history) : NewestOpen pre r t :=
  ⟨e.trans h.history, h.closed, h.isOpen, h.ids⟩

/-- What a report to the verdict unit leaves alone: everything but the history, the reservation, the events, the recall driver and the
ports. -/
structure VerdictFrame (s t : State) : Prop where
  clock      : t.clock = s.clock
  pins       : t.pins = s.pins
  resetHeld  : t.resetHeld = s.resetHeld
  started    : t.started = s.started
  pistol     : t.pistol = s.pistol
  laneMap    : t.laneMap = s.laneMap
  profiles   : t.profiles = s.profiles
  line       : t.line = s.line
  assemblers : t.assemblers = s.assemblers
  rings      : t.rings = s.rings
  zeros      : t.zeros = s.zeros
  detectors  : t.detectors = s.detectors
  host       : t.host = s.host
  store      : t.store = s.store
  seqRest    : { t.seq with history := s.seq.history } = s.seq

theorem VerdictFrame.trans {a b c : State} (h : VerdictFrame a b) (k : VerdictFrame b c) : VerdictFrame a c := by
  refine ⟨k.clock.trans h.clock, k.pins.trans h.pins, k.resetHeld.trans h.resetHeld, k.started.trans h.started, k.pistol.trans h.pistol, k.laneMap.trans h.laneMap,
    k.profiles.trans h.profiles, k.line.trans h.line, k.assemblers.trans h.assemblers, k.rings.trans h.rings, k.zeros.trans h.zeros, k.detectors.trans h.detectors,
    k.host.trans h.host, k.store.trans h.store, ?_⟩
  have := h.seqRest; have := k.seqRest
  rw [← h.seqRest]; rw [← k.seqRest]

/-- A change to a record. -/
theorem VerdictFrame.change (id f) (s : State) : VerdictFrame s (changeRecord id f s) := by
  constructor <;> simp
  rw [changeRecord_eq]

/-- An event placed. -/
theorem VerdictFrame.place (k l a v) (s : State) : VerdictFrame s (place k l a v s) := by constructor <;> rfl
/-- A lamp lit. -/
theorem VerdictFrame.lampOn (l) (s : State) : VerdictFrame s (lampOn l s) := by
  unfold Machine.lampOn; split
  · constructor <;> rfl
  · split <;> constructor <;> rfl

/-- A lamp lit changes neither the attempt, nor the events, nor the recall driver. -/
theorem lampOn_seq (l) (s : State) : (lampOn l s).seq = s.seq ∧ (lampOn l s).events = s.events ∧ (lampOn l s).driver = s.driver := by
  unfold lampOn; split
  · exact ⟨rfl, rfl, rfl⟩
  · split <;> exact ⟨rfl, rfl, rfl⟩

/-- All that the judge report of a PENDING lane of the open record does (R139, R140, R145, R146, R147). -/
theorem reportJudge_spec {pre : List Record} {r : Record} {s : State} (h : NewestOpen pre r s) {l : LaneIx} {x : LaneResult}
    (hx : r.result l = some x) (hp : x.verdict = .pending) (onset : Time) (rt : Int) (f : LaneFlags) :
    let t := reportJudge l onset rt f s
    let r' := judgedRecord l onset rt f s r
    NewestOpen pre r' t ∧ VerdictFrame s t
    ∧ (s.line.reactionLimit ≤ rt → t.events = s.events ∧ t.driver = s.driver ∧ t.ports = s.ports)
    ∧ (rt < s.line.reactionLimit → ∃ q, q = arrive s.line.attnMode
          { kind := .falseStart, time := s.clock, lane := some l, attempt := r.id, value := falseStartValue (some rt) (positionIn l r'.falseList) } s.events
      ∧ (r.state = .running → t.ports = (lampOn l s).ports) ∧ (r.state ≠ .running → t.ports = s.ports)
      ∧ (r.state = .running ∧ s.line.autoRecall = true ∧ r.recallPulse = none →
          t.driver = .pulsing (tadd s.clock s.line.pulseLength) ∧ t.events = arrive s.line.attnMode
            { kind := .recallSent, time := s.clock, lane := none, attempt := r.id, value := 1#32 } q)
      ∧ (¬ (r.state = .running ∧ s.line.autoRecall = true ∧ r.recallPulse = none) → t.driver = s.driver ∧ t.events = q)) := by
  intro t r'
  have hpd : isPending r l = true := by simp [isPending, hx, hp]
  have ho := h.openRecord
  by_cases hlt : rt < s.line.reactionLimit
  · have e1 : t = falseActs l (some rt) (changeRecord r.id (fun r => r.giveFalse l onset (some rt) f) s) := by
      show reportJudge l onset rt f s = _
      simp [reportJudge, ho, hpd, hlt]
    set s1 := changeRecord r.id (fun r => r.giveFalse l onset (some rt) f) s with hs1
    have h1 : NewestOpen pre (r.giveFalse l onset (some rt) f) s1 := h.change (fun r => r.giveFalse l onset (some rt) f) rfl h.isOpen
    have b1 : VerdictFrame s s1 := VerdictFrame.change _ _ _
    set r1 := r.giveFalse l onset (some rt) f with hr1
    have ho1 := h1.openRecord
    set s2 := place .falseStart (some l) r1.id (falseStartValue (some rt) (positionIn l r1.falseList)) s1 with hs2
    have h2 : NewestOpen pre r1 s2 := h1.of_history rfl
    have b2 : VerdictFrame s1 s2 := VerdictFrame.place _ _ _ _ _
    have e2 : t = if r1.state = .running then autoRecall (lampOn l s2) else s2 := by
      rw [e1]; simp only [falseActs, ho1, ← hs2]
    have ev2 : s2.events = arrive s.line.attnMode
          { kind := .falseStart, time := s.clock, lane := some l, attempt := r.id, value := falseStartValue (some rt) (positionIn l r1.falseList) } s.events := by
      simp [hs2, place, hs1]; rfl
    have hfl : r'.falseList = r1.falseList := by
      simp only [r', judgedRecord, if_pos hlt, hr1, Record.giveFalse]; rfl
    by_cases hr : r.state = .running
    · have hr' : r1.state = .running := hr
      rw [if_pos hr'] at e2
      set s3 := lampOn l s2 with hs3
      have h3 : NewestOpen pre r1 s3 := h2.of_history (by rw [(lampOn_seq l s2).1])
      have b3 : VerdictFrame s2 s3 := VerdictFrame.lampOn _ _
      have b03 := (b1.trans b2).trans b3
      have ep : s3.ports = (lampOn l s).ports := by
        simp only [hs3, lampOn]
        have l1 : s2.lane l = s.lane l := by simp [State.lane, hs2, place, hs1]
        have l2 : ∀ p, s2.port p = s.port p := by intro p; simp [State.port, hs2, place, hs1]
        have l3 : s2.ports = s.ports := by simp [hs2, place, hs1]
        rw [l1]
        cases (s.lane l).port with
        | none => exact l3
        | some p => simp only [l2]; split <;> simp [State.setPort, l3]
      by_cases hc : s.line.autoRecall = true ∧ r.recallPulse = none
      · have e3 : t = pulseRequest false r1.id (changeRecord r1.id (fun r => { r with recallPulse := some s3.clock }) s3) := by
          rw [e2]; simp only [autoRecall, h3.openRecord]
          rw [if_pos]
          exact ⟨by rw [b03.line]; exact hc.1, hc.2⟩
        have h4 : NewestOpen pre { r1 with recallPulse := some s3.clock } (changeRecord r1.id (fun r => { r with recallPulse := some s3.clock }) s3) := h3.change (fun r => { r with recallPulse := some s3.clock }) rfl h.isOpen
        have er' : r' = { r1 with recallPulse := some s3.clock } := by
          simp only [r', judgedRecord, if_pos hlt, hr1, Record.giveFalse, hr, hc, b03.clock]; simp [hlt]; rfl
        refine ⟨?_, ?_, fun hh => absurd hlt (by omega), fun _ => ⟨s2.events, by rw [hfl]; exact ev2, fun _ => ?_, fun hh => absurd hr hh, fun _ => ?_, fun hh => absurd ⟨hr, hc⟩ hh⟩⟩
        · rw [er', e3]; exact h4.of_history rfl
        · rw [e3]; refine b03.trans ?_
          refine (VerdictFrame.change r1.id (fun r => { r with recallPulse := some s3.clock }) s3).trans ?_
          constructor <;> rfl
        · rw [e3, ← ep]; simp [pulseRequest, place]
        · rw [e3]
          simp [pulseRequest, place, (lampOn_seq l s2).2.1, hs3]
          refine ⟨?_, ?_⟩
          · rw [← hs3, b03.clock, b03.line]
          · rw [← hs3, b03.clock, b03.line]; rfl
      · have e3 : t = s3 := by
          rw [e2]; simp only [autoRecall, h3.openRecord]
          rw [if_neg]
          rw [b03.line]; exact hc
        have er' : r' = r1 := by
          simp only [r', judgedRecord, if_pos hlt, hr1, Record.giveFalse]; rw [if_neg (by tauto)]; rfl
        refine ⟨by rw [er', e3]; exact h3, by rw [e3]; exact b03, fun hh => absurd hlt (by omega), fun _ => ⟨s2.events, by rw [hfl]; exact ev2, fun _ => by rw [e3]; exact ep, fun hh => absurd hr hh, fun hh => absurd hh.2 hc, fun _ => ?_⟩⟩
        rw [e3]; exact ⟨(lampOn_seq l s2).2.2.trans (by simp [hs2, place, hs1]), (lampOn_seq l s2).2.1⟩
    · have hr' : r1.state ≠ .running := hr
      rw [if_neg hr'] at e2
      have er' : r' = r1 := by
        simp only [r', judgedRecord, if_pos hlt, hr1, Record.giveFalse]; rw [if_neg (by tauto)]; rfl
      refine ⟨by rw [er', e2]; exact h2, by rw [e2]; exact b1.trans b2, fun hh => absurd hlt (by omega), fun _ => ⟨s2.events, by rw [hfl]; exact ev2, fun hh => absurd hh hr, fun _ => by rw [e2]; simp [hs2, place, hs1], fun hh => absurd hh.1 hr, fun _ => ?_⟩⟩
      rw [e2]; exact ⟨by simp [hs2, place, hs1], rfl⟩
  · have e1 : t = changeRecord r.id (fun r => r.onLane l fun x =>
          { x with verdict := .fair, onset := some onset, rt := some rt, flags := x.flags.union f }) s := by
      show reportJudge l onset rt f s = _
      simp [reportJudge, ho, hpd, hlt]
    have er' : r' = r.onLane l fun x =>
          { x with verdict := .fair, onset := some onset, rt := some rt, flags := x.flags.union f } := by
      simp only [r', judgedRecord, hlt, false_and, if_false]; rfl
    refine ⟨?_, ?_, fun _ => by rw [e1]; simp, fun hh => absurd hh hlt⟩
    · rw [er', e1]; exact h.change (fun r => r.onLane l fun x =>
          { x with verdict := .fair, onset := some onset, rt := some rt, flags := x.flags.union f }) rfl h.isOpen
    · rw [e1]; exact VerdictFrame.change _ _ _

end Sys2Proof.Machine
end

