-- ==== Sys2Proof/WellFormed.lean ====
section
/-! DEFINITION. The commands that their rows of the table describe: operands within their ranges, and bytes that make the frame their row
names. The meanings are total: a command that is not well formed still has the effect its bytes have. -/

namespace Sys2Proof.Machine

/-- A payload that a request frame can carry: 0 to 200 bytes (section 9.3). -/
def Request.wf (r : Request) : Bool := decide (r.payload.length ≤ 200)

/-- The use of four bytes that make a valid inbound frame, with no error and with a check that agrees; none for any other bytes (R20,
R22, R200). -/
def validUse (bytes : List RxByte) : Option LinkUse :=
  match bytes with
  | [a, b, c, d] =>
    if a.data.msb && !b.data.msb && !c.data.msb && !d.data.msb && !linkError a && !linkError b && !linkError c && !linkError d
      && linkCheckAgrees a.data b.data c.data d.data
    then some (linkUse (linkFields a.data b.data c.data d.data)) else none
  | _ => none

/-- Four bytes that make a valid frame used as a sample. -/
def isSampleFrame (rx : LinkRx) : Bool := match validUse rx.bytes with | some (.sample _ _ _ _) => true | _ => false

/-- Four bytes that make a valid frame used as a hello. -/
def isHelloFrame (rx : LinkRx) : Bool := match validUse rx.bytes with | some (.hello _) => true | _ => false

/-- Four bytes that make a valid alive frame. -/
def isAliveFrame (rx : LinkRx) : Bool := validUse rx.bytes = some .alive

/-- Four bytes that make a valid frame that is discarded (R200). -/
def isDiscardedFrame (rx : LinkRx) : Bool := validUse rx.bytes = some .discarded

end Sys2Proof.Machine

namespace Sys2Proof

/-- A command that its row describes. -/
def Instr.wf (i : Instr) : Bool :=
  match i with
  | .status r | .events r | .port r | .laneSet r | .laneGet r | .profileSet r | .profileGet r | .lineSet r | .lineGet r | .zero r
  | .marks r | .set r | .stand r | .record r | .recallRequest r | .reserve r | .rule r | .trace r | .storeSave r | .restart r =>
    Machine.Request.wf r
  | .unknownKindRequest kind r => (Machine.kindOfCode kind).isNone && Machine.Request.wf r
  | .requestFrameDropped bytes | .frameTimeout bytes | .mutedFrame bytes _ => !bytes.isEmpty
  | .sampleFrame _ rx => Machine.isSampleFrame rx
  | .hello _ rx => Machine.isHelloFrame rx
  | .alive _ rx => Machine.isAliveFrame rx
  | .discardedStatusFrame _ rx => Machine.isDiscardedFrame rx
  | .badFrame _ rx => !rx.bytes.isEmpty && (Machine.validUse rx.bytes).isNone
  | .tick _ upsets => upsets.all fun u => decide (u.2 < 2048)
  | .reset _ | .startUpFirstTick _ | .replyStart | .replySent | .replyAbandoned2ms | .pistolEdge | .shotAccepted | .glitch
  | .pistolHoldEnd | .recallPulseEnd | .silenceEndExpiry _ | .presenceActive _ | .presenceInactive _ | .helloWaitEndExpiry _
  | .breakEnd _ | .outboundFrameSent _ | .zeroTimeout _ | .settleEndExpiry | .windowCloseExpiry | .recallShotEndExpiry
  | .heldAgeEndExpiry _ | .attnPulseStart | .attnPulseEnd | .loadAddressAcknowledged | .loadAcknowledgeDeadline | .loadRead _
  | .saveWriteTaken | .saveWriteStored | .saveAcknowledgeDeadline | .resetPinAsserted => true

end Sys2Proof
end

