-- ==== Sys2Proof/Tests/Slice0.lean ====
section
/-! SUPPORT. Tests: ill-formed commands refused by the well-formedness checks, worked examples of the manual, and for every statement
that has hypotheses a state and operands that meet them. -/

namespace Sys2Proof.Machine.Tests

/-! ### Helper states -/

/-- A request to station 5 with tag 7. -/
def req (payload : List Byte) : Request := { address := 5#8, tag := 7#8, payload := payload }

/-- A running station 5 with its load ended, line IDLE. -/
def station : State :=
  { State.reset with started := true, pistol := { pistolReset with prev := some false }, host := { hostReset State.reset.pins.straps with address := some 5 },
                     store := { storeReset with state := .loaded, markerOffset := some 298 } }

/-- A record of heat 12 with lanes 3 and 5. -/
def rec1 (st : RecState) (t0 : Option Time) : Record := { newRecord 1 12 1 [2, 4] with state := st, t0 := t0 }

/-- The station with that record as its history. -/
def withRec (st : RecState) (t0 : Option Time) : State :=
  { station with seq := { sequencerReset with history := [rec1 st t0], nextId := 2 } }

/-- A port that is STREAMING with a two-channel pod. -/
def streamingPort : Port :=
  { portReset with link := .streaming, presence := true, capability := some 2, lastValid := some 100#32, silenceEnd := some 300#32,
                   streamingSince := some 100#32 }

/-- The station with port 3 STREAMING. -/
def streaming3 : State := { station with ports := station.ports.set 3 streamingPort, clock := 110#32 }

/-- The state a command answers, the state itself if it answers none. -/
def after (c : Instr) (s : State) : State := match exec c s with | .next t => t | _ => s

theorem serves_like {s : State} (h1 : s.resetHeld = false) (h2 : s.host = station.host) (h3 : s.store.state ≠ .loading)
    (p : List Byte) : Serves s (req p) := by
  refine ⟨⟨h1, ?_, ?_, ?_, ?_, ?_⟩, h3⟩ <;> simp [h2, deAsserted, station, hostReset, req]

theorem station_serves (p : List Byte) : Serves station (req p) := serves_like rfl rfl (by decide) p

theorem withRec_serves (st : RecState) (t0 : Option Time) (p : List Byte) : Serves (withRec st t0) (req p) :=
  serves_like rfl rfl (by decide +revert) p

theorem withRec_history (st : RecState) (t0 : Option Time) : HistoryInv (withRec st t0) := by
  constructor <;> simp [withRec, rec1, newRecord, newResult, ChainedTo, nextAttemptId, Record.lanes, station]

theorem withRec_false (st : RecState) (t0 : Option Time) : FalseListInv (withRec st t0) := by
  intro r hr
  obtain rfl : r = rec1 st t0 := by simpa [withRec] using hr
  exact ⟨by simp [rec1, newRecord], by simp [rec1, newRecord, newResult]⟩

/-- A reply that waits or is being sent. -/
def someReply : Reply := { tag := 7#8, kind := 0x39#8, status := .ok, payload := [] }

/-! ### Ill-formed commands are refused by the well-formedness checks -/

theorem test_wf_long_payload : (Instr.status (req (List.replicate 201 0#8))).wf = false := by decide +kernel
theorem test_wf_status : (Instr.status (req [0#8])).wf = true := by decide
theorem test_wf_known_kind : (Instr.unknownKindRequest 0x20#8 (req [])).wf = false := by decide
theorem test_wf_unknown_kind : (Instr.unknownKindRequest 0x77#8 (req [])).wf = true := by decide
theorem test_wf_no_bytes :
    (Instr.requestFrameDropped []).wf = false ∧ (Instr.frameTimeout []).wf = false ∧ (Instr.mutedFrame [] true).wf = false := by decide
theorem test_wf_sample_is_no_hello : (Instr.sampleFrame 0 (linkRxOf (helloFields 2#16))).wf = false := by decide
theorem test_wf_hello_of_five : (Instr.hello 0 (linkRxOf (helloFields 5#16))).wf = false := by decide
theorem test_wf_alive_is_no_discarded : (Instr.discardedStatusFrame 0 (linkRxOf aliveFields)).wf = false := by decide
theorem test_wf_hello_is_no_alive : (Instr.alive 0 (linkRxOf (helloFields 2#16))).wf = false := by decide
theorem test_wf_good_frame_is_not_bad : (Instr.badFrame 0 (linkRxOf aliveFields)).wf = false := by decide
theorem test_wf_short_frame_is_bad : (Instr.badFrame 0 { bytes := [linkByteOf 0x80#8], early := false }).wf = true := by decide
theorem test_wf_upset_index : (Instr.tick Config.initialPins [(0, 2048)]).wf = false := by decide
theorem test_wf_frames : (Instr.sampleFrame 0 (linkRxOf (sampleFields 1 7#4 0xFFFF#16 true))).wf = true
    ∧ (Instr.hello 0 (linkRxOf (helloFields 4#16))).wf = true ∧ (Instr.alive 0 (linkRxOf aliveFields)).wf = true
    ∧ (Instr.discardedStatusFrame 0 (linkRxOf (helloFields 5#16))).wf = true := by decide

/-! ### Bytes that the manual writes out -/

/-- R168: over the nine bytes 0x31 to 0x39 the register ends at 0x29B1. -/
theorem test_crc_check_value : crc16 [0x31#8, 0x32#8, 0x33#8, 0x34#8, 0x35#8, 0x36#8, 0x37#8, 0x38#8, 0x39#8] = 0x29B1#16 := by
  decide +kernel
/-- R166: address 5 (00101) needs the parity strap at 1, address 7 (00111) at 0; 0 and 31 are no address. -/
theorem test_strap_addresses :
    addressOfStraps ⟨0, 5#5, true⟩ = some 5 ∧ addressOfStraps ⟨0, 5#5, false⟩ = none ∧ addressOfStraps ⟨0, 7#5, false⟩ = some 7
      ∧ addressOfStraps ⟨0, 0#5, true⟩ = none ∧ addressOfStraps ⟨0, 31#5, false⟩ = none := by decide
/-- Section 12.7: a sample of channel 2, sequence 9, value 0x1234, overloaded, written out bit by bit: 1_0_10_1001, 0_0001001, 0_0001101,
0_00_1_cccc, with the check of R20: A, 9, 0, 9, 0, D, 1 give 6. -/
theorem test_sample_frame_bits :
    linkFields 0b10101001#8 0b00001001#8 0b00001101#8 0b00010110#8
        = { status := false, selector := 2, sequence := 9, value := 0x1234, overload := true }
      ∧ linkCheckAgrees 0b10101001#8 0b00001001#8 0b00001101#8 0b00010110#8 = true
      ∧ linkFrameBytes (sampleFields 2 9#4 0x1234#16 true) = [0b10101001#8, 0b00001001#8, 0b00001101#8, 0b00010110#8] := by decide
/-- Section 12.7, R38: the mode frame of 2000 Hz and channels 0 and 1 has the value 0b10_0011; each command frame has a value of 0. -/
theorem test_outbound_frames :
    outFrameBytes (.mode .hz2000 0b0011#4) = [0x80#8, 0x00#8, 0x08#8, 0x66#8]
      ∧ outFrameBytes .streamOn = [0xC0#8, 0x00#8, 0x00#8, 0x0C#8] ∧ outFrameBytes .streamOff = [0xD0#8, 0x00#8, 0x00#8, 0x0D#8]
      ∧ outFrameBytes .lampOn = [0xE0#8, 0x00#8, 0x00#8, 0x0E#8] ∧ outFrameBytes .lampOff = [0xF0#8, 0x00#8, 0x00#8, 0x0F#8] := by decide

/-! ### Worked examples of the manual -/

/-- An entry of a lane whose gains of channels 0 and 1 and zero offsets are these. -/
def laneOf (g0 g1 : Nat) (z0 z1 : Int) : LaneEntry :=
  { factoryLane 2 with gains := #v[g0, g1, 1024, 1024], zeros := #v[z0, z1, 0, 0] }

/-- An assembler that holds these values on channels 0 and 1, both fresh. -/
def holding (r0 r1 : BitVec 16) : Assembler :=
  { assemblerReset with raw := #v[some r0, some r1, none, none], fresh := #v[true, true, false, false] }

/-- Section 4.2.1: 2100 and 1660, the sum 3760; halves away from zero; the largest contribution. -/
theorem test_contributions :
    contribution (laneOf 2048 2000 150 130) (holding 1200 980) 0 = 2100
      ∧ contribution (laneOf 2048 2000 150 130) (holding 1200 980) 1 = 1660
      ∧ forceSum (laneOf 2048 2000 150 130) (holding 1200 980) = 3760
      ∧ contribution (laneOf 512 512 0 0) (holding 3 (-3)) 0 = 2 ∧ contribution (laneOf 512 512 0 0) (holding 3 (-3)) 1 = -2
      ∧ contribution (laneOf 500 500 0 0) (holding (-1) 0) 0 = 0
      ∧ contribution (laneOf 16383 1 (-32768) 0) (holding 32767 0) 0 = 1048496 := by decide
/-- Section 4.2.1: sums of 35 000 and -5000 are held at the limits, with SAT. -/
theorem test_saturation : combinedForce 35000 = 30000 ∧ satFlag 35000 = true ∧ combinedForce (-5000) = -3000 ∧ satFlag (-5000) = true
    ∧ satFlag 30000 = false ∧ satFlag (-3000) = false := by decide
/-- Section 4.4.1: 9632 / 64 gives 151 and -2080 / 64 gives -32. -/
theorem test_zero_means : zeroMean 9632 = 151 ∧ zeroMean (-2080) = -32 := by decide
/-- Section 6.12: B 3760, N 39, threshold 4010, L 3799, U 164. R111: of 20 samples, B 3761, N 20, threshold 4011, L 3781, U 145. -/
theorem test_baselines :
    baselineOf factoryProfile { detectorReset with n := 64, sum := 240640, maximum := some 3790, minimum := some 3712 }
        = { b := 3760, n := 39, theta := 4010, l := 3799, u := 164 }
      ∧ baselineOf factoryProfile { detectorReset with n := 20, sum := 75220, maximum := some 3780, minimum := some 3740 }
        = { b := 3761, n := 20, theta := 4011, l := 3781, u := 145 } := by decide

/-- A slot of an entry with this time and force and no flag. -/
def slotOf (t : Nat) (f : Int) (gap intact : Bool) : Slot :=
  { entry := { time := BitVec.ofNat 32 t, force := f, stale := false, gap := gap, sat := false, ovl := false }, intact := intact }

/-- The entries of section 6.12 from 501 050 to 501 075, the second and third with these gaps and checks. -/
def walkRing (intact2 : Bool) (gap3 : Bool) : Ring :=
  { slots := [slotOf 501050 3795 false true, slotOf 501055 3850 false intact2, slotOf 501060 3960 gap3 true,
      slotOf 501065 4080 false true, slotOf 501070 4300 false true, slotOf 501075 4620 false true],
    writeIndex := 6, count := 6, frozenBy := none }

/-- Section 6.12: the onset 501 055; a GAP, a failed check, and a gap at the first crossing bound it. -/
theorem test_onset_walks :
    onsetWalk (walkRing true false) 3799 { index := some 3, time := 501065#32, gap := false } false false
        = { onset := 501055#32, bounded := false, stale := false, sat := false, fault := none }
      ∧ onsetWalk (walkRing true true) 3799 { index := some 3, time := 501065#32, gap := false } false false
        = { onset := 501060#32, bounded := true, stale := false, sat := false, fault := none }
      ∧ onsetWalk (walkRing false false) 3799 { index := some 3, time := 501065#32, gap := false } false false
        = { onset := 501060#32, bounded := true, stale := false, sat := false, fault := some 1 }
      ∧ onsetWalk (walkRing true false) 3799 { index := some 3, time := 501065#32, gap := true } false false
        = { onset := 501065#32, bounded := true, stale := false, sat := false, fault := none } := by decide
/-- Sections 6.12 and 7.8: reaction times 1043 and -60; R122: the limits of the field and the long-held mark. -/
theorem test_reactions : reaction 501043#32 500000#32 false = (1043, false, false) ∧ reaction 699940#32 700000#32 false = (-60, false, true)
    ∧ reaction 0#32 40000#32 false = (-32768, true, true) ∧ reaction 40000#32 0#32 false = (32767, true, false)
    ∧ reaction 5#32 0#32 true = (-32768, true, true) := by decide
/-- Section 7.8: the values of the FALSE_START events. -/
theorem test_false_start_values : falseStartValue (some 620) 1 = 0x026C0001#32 ∧ falseStartValue (some 580) 1 = 0x02440001#32
    ∧ falseStartValue none 1 = 0x80000001#32 := by decide
/-- Section 7.8: lane 6 with the earlier onset stands before lane 3, and after it with an equal onset. -/
theorem test_list_order :
    insertFalse [{ newResult 2 with onset := some 700620#32 }] 5 700580#32 [2] = [5, 2]
      ∧ insertFalse [{ newResult 2 with onset := some 700620#32 }] 5 700620#32 [2] = [2, 5] := by decide
/-- Section 12.8: the image of 15 records has 302 bytes and its end marker at offset 298, and the load accepts it. -/
theorem test_image : (saveImage State.reset).length = 302
    ∧ (match loadFinding (saveImage State.reset) with | .good _ o => o == 298 | _ => false) = true := by decide +kernel
/-- Section 12.2: a STATUS reply has 43 bytes, a PORT reply 23; section 12.4: a record of two lanes has 26 + 32. -/
theorem test_reply_lengths : (statusBytes station).length = 43 ∧ (portBytes 3 station).length = 23
    ∧ (recordBytes (rec1 .marks none)).length = 58 := by decide +kernel

/-! ### Single commands -/

/-- R5, section 5.8: an edge at tick 500 000 with Q 10 is qualified until 500 010. -/
theorem test_edge : (after .pistolEdge { station with clock := 500000#32, pistol := { station.pistol with sample := some true } }).pistol.unit
    = .qualifying 500000#32 500010#32 := by decide +kernel
/-- R23, section 2.10.1: a hello of two channels on port 3 brings LINK_UP with lane 4 and value 3. -/
theorem test_hello : (after (.hello 3 (linkRxOf (helloFields 2#16)))
      { station with ports := station.ports.set 3 { portReset with link := .linking, presence := true } }).events.list
    = [{ kind := .linkUp, time := 0#32, lane := some 3, attempt := 0, value := 3#32 }] := by decide +kernel
/-- Section 2.10.1: after the silence end a port's break, begun when stream-off has been sent at 100 260, ends at 100 262. -/
theorem test_break_end : ((after (.outboundFrameSent 3)
      (after (.silenceEndExpiry 3) { station with clock := 100260#32, ports := station.ports.set 3 { streamingPort with silenceEnd := some 100260#32 } })).port 3).brk
    = .low 100262#32 := by decide +kernel
/-- R83, R84: a second MARKS of a heat takes the next id and number. -/
theorem test_marks_reply : (after (.marks (req [0#8, 12#8, 0#8, 0x28#8])) (withRec .aborted none)).host.tx
    = .waiting { tag := 7#8, kind := 0x20#8, status := .ok, payload := [0#8, 2#8, 2#8] } 20#32 := by decide +kernel
/-- R148, section 8.5.2: RECALL in MARKS is refused with STATE. -/
theorem test_recall_refused : (after (.recallRequest (req [])) (withRec .marks none)).host.tx
    = .waiting { tag := 7#8, kind := 0x28#8, status := .state, payload := [] } 20#32 := by decide +kernel

/-- R178, R196: the reply of a RESTART still waits at the end of its 2 ms; the part is reset, and the tick is the first one after it. -/
theorem test_tick_after_restart : (after (.tick Config.initialPins [])
      { station with clock := 77#32, host := { station.host with tx := .waiting someReply 77#32, restartPending := true } }).clock
    = 1#32 := by decide +kernel
/-- R110, R113: a detector held in WATCHING that carries a run resumes the unsteady test from a run of 0 at the glitch. -/
theorem test_glitch_clears_run : ((after .glitch
      ({ withRec .set none with pistol := { pistolReset with unit := .qualifying 0 9, sample := some false } }.setDetector 2
        { detectorReset with state := .watching, hold := true, unsteadyRun := 12 })).detector 2).unsteadyRun = 0 := by decide +kernel
/-- R167: a sync byte begun while DE was asserted is not taken after the release; one begun after it is. -/
theorem test_byte_begun_under_de :
    (after (.frameTimeout [{ hostByteOf 0xC3#8 with underDe := true }, hostByteOf 5#8]) station).host.timeoutCount = 0
      ∧ (after (.frameTimeout [hostByteOf 0xC3#8, hostByteOf 5#8]) station).host.timeoutCount = 1 := by decide +kernel
/-- R178: a reply that is no RESTART's and still waits at the end of its 2 ms is gone after the tick. -/
theorem test_tick_abandons_reply : (after (.tick Config.initialPins [])
      { station with clock := 77#32, host := { station.host with tx := .waiting someReply 77#32 } }).host.tx = .idle := by decide +kernel
/-- R189: the bytes of an address transaction, of a read at offset 0x0120, and of a write of one byte at offset 0x012A; in a read every byte
but the last is acknowledged. -/
theorem test_transactions : Transaction.address.sent = [0x50#8] ∧ (Transaction.read 0x120).sent = [0x50#8, 0x01#8, 0x20#8, 0x50#8]
    ∧ (Transaction.write 0x12A [0x00#8]).sent = [0x50#8, 0x01#8, 0x2A#8, 0x00#8]
    ∧ (Transaction.read 0x120).acknowledges = List.replicate 15 true ++ [false] := by decide

/-! ### Witnesses: a state and operands that meet the hypotheses of each statement -/

theorem streaming3_serves (p : List Byte) : Serves streaming3 (req p) := serves_like rfl rfl (by decide) p

theorem factoryLane_ok (l : LaneIx) : (factoryLane l).Ok := by
  refine ⟨by simp [factoryLane], by simp [factoryLane], fun c => ?_, fun c => ?_, by simp [factoryLane]⟩ <;> fin_cases c <;>
    simp [factoryLane]
theorem factoryProfile_ok : factoryProfile.Ok := by unfold Profile.Ok; decide
theorem factoryLine_ok : factoryLine.Ok := by unfold LineSettings.Ok; decide

theorem witness_StepRunsFrontCommand :
    ({ station with pending := [.replySent, .glitch] } : State).pending = .replySent :: [.glitch] ∧ station.pending = [] := by decide
theorem witness_ResetPinAndStraps :
    ({ station with resetHeld := true } : State).resetHeld = true ∧ (∀ straps, Instr.replySent ≠ .reset straps)
      ∧ Instr.replySent ≠ .resetPinAsserted := by simp
theorem witness_FirstTickStartsUp :
    State.reset.resetHeld = false ∧ State.reset.started = false ∧ ∀ p, State.reset.port p = portReset := by decide
/-- The station with this pistol input unit. -/
def pistolTaking (x : Pistol) : State := { station with pistol := x }

theorem pistolTaking_nothingDue (x : Pistol) (h : x.sample = none) (hq : x.unit = .held → x.quietRun ≠ 500) :
    NothingDue (pistolTaking x) :=
  ⟨h, hq, (by decide : ∀ p, (station.port p).presenceRun ≠ 20), (by decide : ∀ p, (station.port p).brk ≠ .low station.clock),
    (by decide : ∀ p, (station.port p).silenceEnd ≠ some station.clock), (by decide : ∀ p, (station.port p).helloWaitEnd ≠ some station.clock),
    (by decide : station.driver ≠ .pulsing station.clock), (by decide : ∀ l z, station.zero l = some z → z.timeoutEnd ≠ station.clock),
    (by decide : station.seq.settleEnd ≠ some station.clock), (by decide : station.seq.windowEnd ≠ some station.clock),
    (by decide : station.seq.recallShotEnd ≠ some station.clock), (by decide : ∀ l, (station.detector l).heldAgeEnd ≠ some station.clock),
    (by decide : station.store.deadline ≠ some station.clock), nofun⟩

theorem witness_TickAdvancesClock :
    -- a tick before the first one, a tick at the end of the 2 ms of a RESTART's reply, and one before that end
    State.reset.resetHeld = false ∧ State.reset.started = false
      ∧ ({ station with host := { station.host with tx := .waiting someReply 0#32, restartPending := true } } : State).host.tx
          = .waiting someReply station.clock
      ∧ (∀ rep, ({ station with host := { station.host with tx := .waiting someReply 1#32 } } : State).host.tx ≠ .waiting rep station.clock)
    -- a reply at its 2 ms that is no RESTART's
      ∧ station.host.restartPending = false ∧ station.started = true
    -- QUIET, QUALIFYING before and at the qualify end, HELD
      ∧ NothingDue (pistolTaking { pistolReset with prev := some false })
      ∧ NothingDue (pistolTaking { pistolReset with unit := .qualifying 0 2, prev := some true })
      ∧ NothingDue (pistolTaking { pistolReset with unit := .qualifying 0 1, prev := some true })
      ∧ NothingDue (pistolTaking { pistolReset with unit := .held, quietRun := 499 })
      ∧ station.resetHeld = false ∧ station.started = true :=
  ⟨rfl, rfl, rfl, fun _ h => absurd h (by simp [station, State.reset, State.afterReset]), rfl, rfl, pistolTaking_nothingDue _ rfl nofun, pistolTaking_nothingDue _ rfl nofun,
    pistolTaking_nothingDue _ rfl nofun, pistolTaking_nothingDue _ rfl (by simp), rfl, rfl⟩
/-- Events still due at tick 0: a pistol edge, a shot, a glitch, the end of a hold, a presence change; and a tick that brings no reset. -/
theorem witness_TickTakesWhatIsDue :
    station.resetHeld = false ∧ station.started = true ∧ station.host.restartPending = false
      ∧ (pistolTaking { pistolReset with prev := some false, sample := some true }).pistol.sample = some true
      ∧ (pistolTaking { pistolReset with unit := .qualifying 9 0, sample := some true }).pistol.unit = .qualifying 9#32 station.clock
      ∧ (pistolTaking { pistolReset with unit := .qualifying 9 5, sample := some false }).pistol.sample = some false
      ∧ (pistolTaking { pistolReset with unit := .held, quietRun := 500 }).pistol.quietRun = 500
      ∧ ((station.setPort 3 { portReset with presenceRun := 20 }).port 3).presenceRun = 20
      ∧ ({ station with driver := .pulsing 0#32 } : State).driver = .pulsing station.clock := by decide
theorem witness_TimeDifferenceIsSigned :
    ((5#32).toNat + 4294967296 - (3#32).toNat) % 4294967296 ≤ 2147483647
      ∧ 2147483648 ≤ ((3#32).toNat + 4294967296 - (5#32).toNat) % 4294967296
      ∧ (2147483647 : Nat) < 2147483648 := by decide
theorem witness_CommonRefusals :
    requestOf (.unknownKindRequest 0x77 (req [])) = some (0x77#8, req []) ∧ Takes station (req []) ∧ kindOfCode 0x77#8 = none
      ∧ requestOf (.set (req [1#8])) = some (0x21#8, req [1#8]) ∧ Takes station (req [1#8]) ∧ [1#8].length ≠ Kind.length .set
      ∧ requestOf (.zero (req [3#8])) = some (0x18#8, req [3#8])
      ∧ Takes { station with store := storeReset } (req [3#8]) ∧ [3#8].length = Kind.length .zero ∧ Kind.zero ≠ .status :=
  ⟨rfl, (station_serves _).1, by decide, rfl, (station_serves _).1, by decide, rfl, (station_serves [3#8]).1, rfl, by decide⟩
theorem witness_StatusAndPortAnswered : Takes station (req [0#8]) ∧ Takes station (req [1#8]) ∧ Takes station (req [2#8])
    ∧ Serves station (req [11#8, 0#8]) ∧ (11#8).toNat = (11 : PortIx).val ∧ Serves station (req [0#8, 1#8]) ∧ (0#8).toNat = (0 : PortIx).val
    ∧ Serves station (req [3#8, 2#8]) ∧ Serves station (req [12#8, 0#8]) ∧ 11 < (12#8).toNat :=
  ⟨(station_serves _).1, (station_serves _).1, (station_serves _).1, station_serves _, rfl, station_serves _, rfl, station_serves _,
    station_serves _, by decide⟩
theorem witness_EventsFetched : Serves station (req [1#8]) ∧ Serves station (req [16#8]) ∧ Serves station (req [0#8]) ∧ Serves station (req [17#8])
    ∧ 1 ≤ (16#8).toNat ∧ (16#8).toNat ≤ 16 ∧ (0#8).toNat = 0 ∧ 16 < (17#8).toNat :=
  ⟨station_serves _, station_serves _, station_serves _, station_serves _, by decide⟩
theorem witness_TablesRead : Serves station (req [10#8]) ∧ (10#8).toNat = (9 : LaneIx).val + 1 ∧ Serves station (req [11#8]) ∧ 10 < (11#8).toNat
    ∧ Serves station (req [3#8]) ∧ (3#8).toNat = (3 : Fin 4).val ∧ Serves station (req [4#8]) ∧ 3 < (4#8).toNat ∧ Serves station (req []) :=
  ⟨station_serves _, rfl, station_serves _, by decide, station_serves _, rfl, station_serves _, by decide, station_serves _⟩
theorem witness_TableLayoutsRoundTrip : (factoryLane 9).Ok ∧ factoryProfile.Ok ∧ factoryLine.Ok :=
  ⟨factoryLane_ok _, factoryProfile_ok, factoryLine_ok⟩

/-- Lane 3's entry put on port 11. -/
def onPort11 : LaneEntry := { factoryLane 2 with port := some 11 }

theorem onPort11_ok : onPort11.Ok := factoryLane_ok 2

theorem witness_LaneSetWritesEntry :
    -- a port held by another lane
    Serves station (req (3#8 :: laneEntryBytes (factoryLane 4))) ∧ (factoryLane 4).Ok ∧ (3#8).toNat = (2 : LaneIx).val + 1
      ∧ (∃ k p, k ≠ (2 : LaneIx) ∧ (factoryLane 4).port = some p ∧ (station.lane k).port = some p)
    -- a free port, the lane in the open record, or free to be written
      ∧ Serves station (req (3#8 :: laneEntryBytes onPort11)) ∧ onPort11.Ok
      ∧ (∀ k p, k ≠ (2 : LaneIx) → onPort11.port = some p → (station.lane k).port ≠ some p)
      ∧ Serves (withRec .marks none) (req (3#8 :: laneEntryBytes onPort11)) ∧ (2 : LaneIx) ∈ openLanes (withRec .marks none)
      ∧ (∀ k p, k ≠ (2 : LaneIx) → onPort11.port = some p → ((withRec .marks none).lane k).port ≠ some p)
      ∧ (2 : LaneIx) ∉ openLanes station ∧ station.zero 2 = none ∧ station.store.state ≠ .saving
      ∧ (∀ p, (station.lane 2).port = some p ∨ onPort11.port = some p → (station.port p).link = .absent)
    -- a lane byte of 11, and a port byte of 12, out of their ranges
      ∧ Serves station (req (11#8 :: laneEntryBytes onPort11)) ∧ 10 < (11#8).toNat
      ∧ Serves station (req (3#8 :: 12#8 :: (laneEntryBytes onPort11).tail)) ∧ 12 ≤ (12#8).toNat ∧ (12#8).toNat ≤ 0xFE :=
  ⟨station_serves _, factoryLane_ok 4, rfl, ⟨4, 4, by decide⟩, station_serves _, onPort11_ok, by decide, withRec_serves _ _ _, by decide,
    by decide, by decide, by decide, by decide, by decide, station_serves _, by decide, station_serves _, by decide, by decide⟩

/-- The station with every port STREAMING. -/
def allStreaming : State := { station with ports := Vector.replicate 12 streamingPort, clock := 110#32 }

theorem witness_TableChangesResetLinks :
    Serves allStreaming (req (3#8 :: laneEntryBytes onPort11)) ∧ onPort11.Ok ∧ (3#8).toNat = (2 : LaneIx).val + 1
      ∧ (∀ k p, k ≠ (2 : LaneIx) → onPort11.port = some p → (allStreaming.lane k).port ≠ some p) ∧ (2 : LaneIx) ∉ openLanes allStreaming
      ∧ allStreaming.zero 2 = none ∧ allStreaming.store.state ≠ .saving ∧ onPort11.port ≠ (allStreaming.lane 2).port
      ∧ (∀ p, (allStreaming.port p).link = .streaming)
      ∧ Serves streaming3 (req (lineBytes { factoryLine with rate := .hz1000 })) ∧ ({ factoryLine with rate := .hz1000 } : LineSettings).Ok
      ∧ lineState streaming3 = .idle ∧ streaming3.store.state ≠ .saving ∧ SampleRate.hz1000 ≠ streaming3.line.rate
      ∧ (streaming3.port 3).link = .streaming ∧ (streaming3.port 0).link = .absent
      ∧ mappedLane streaming3 3 = some 3 ∧ (streaming3.lane 3).port = some 3 :=
  ⟨serves_like rfl rfl (by decide) _, onPort11_ok, rfl, by decide, by decide, by decide, by decide, by decide, by decide,
    streaming3_serves _, factoryLine_ok, by decide, by decide, by decide, by decide, by decide, by decide, by decide⟩
theorem witness_ProfileAndLineWritten :
    Serves station (req (3#8 :: profileBytes factoryProfile)) ∧ factoryProfile.Ok ∧ (3#8).toNat = (3 : Fin 4).val
      ∧ (∀ l ∈ openLanes station, (station.lane l).profile ≠ 3) ∧ station.store.state ≠ .saving
      ∧ Serves (withRec .set none) (req (0#8 :: profileBytes factoryProfile)) ∧ (0#8).toNat = (0 : Fin 4).val
      ∧ (∃ l ∈ openLanes (withRec .set none), ((withRec .set none).lane l).profile = 0)
      ∧ Serves (withRec .set none) (req (lineBytes factoryLine)) ∧ factoryLine.Ok ∧ lineState (withRec .set none) ≠ .idle
      ∧ Serves station (req (lineBytes { factoryLine with attnMode := .pulse })) ∧ lineState station = .idle
      ∧ ({ factoryLine with attnMode := .pulse } : LineSettings).rate = station.line.rate
    -- a T_abs of 2001, and a reaction limit of 2001
      ∧ Serves station (req [3#8, 0x07#8, 0xD1#8, 4#8, 3#8, 1#8]) ∧ 2000 < (0x07#8 ++ 0xD1#8 : BitVec 16).toNat
      ∧ Serves station (req ([0x07#8, 0xD1#8] ++ (lineBytes factoryLine).drop 2)) :=
  ⟨station_serves _, factoryProfile_ok, rfl, by decide, by decide, withRec_serves _ _ _, rfl, ⟨2, by decide⟩, withRec_serves _ _ _,
    factoryLine_ok, by decide, station_serves _, by decide, rfl, station_serves _, by decide, station_serves _⟩
theorem witness_ZeroStarts :
    -- a lane with a stream; a lane without one; a lane in MARKS; a lane out of service
    Serves streaming3 (req [4#8]) ∧ (4#8).toNat = (3 : LaneIx).val + 1 ∧ (streaming3.lane 3).port = some 3 ∧ lineState streaming3 = .idle
      ∧ (streaming3.port 3).link = .streaming ∧ (streaming3.port 3).mismatched = false ∧ streaming3.zero 3 = none
      ∧ streaming3.store.state ≠ .saving
      ∧ Serves station (req [4#8]) ∧ (station.port 3).link ≠ .streaming
      ∧ Serves (withRec .marks none) (req [10#8]) ∧ (10#8).toNat = (9 : LaneIx).val + 1 ∧ lineState (withRec .marks none) ≠ .idle
      ∧ Serves (station.setLane 0 { factoryLane 0 with port := none }) (req [1#8])
      ∧ ((station.setLane 0 { factoryLane 0 with port := none }).lane 0).port = none
    -- a second ZERO; lane bytes of 0 and 11
      ∧ Serves (streaming3.setZero 3 (some (zeroStart 0))) (req [4#8]) ∧ ((streaming3.setZero 3 (some (zeroStart 0))).zero 3).isSome
      ∧ Serves station (req [0#8]) ∧ Serves station (req [11#8]) ∧ 10 < (11#8).toNat :=
  ⟨streaming3_serves _, rfl, by decide, by decide, by decide, by decide, by decide, by decide, station_serves _, by decide,
    withRec_serves _ _ _, rfl, by decide, serves_like rfl rfl (by decide) _, by decide, serves_like rfl rfl (by decide) _, by decide,
    station_serves _, station_serves _, by decide⟩
theorem witness_ZeroEnds :
    (station.setZero 9 (some { zeroStart 0 with timeoutEnd := 0#32 })).resetHeld = false
      ∧ (station.setZero 9 (some { zeroStart 0 with timeoutEnd := 0#32 })).zero 9 = some { zeroStart 0 with timeoutEnd := 0#32 }
      ∧ (0#32 : Time) = (station.setZero 9 (some { zeroStart 0 with timeoutEnd := 0#32 })).clock
      ∧ (station.setZero 5 (some { zeroStart 0 with count := 63 })).zero 5 = some { zeroStart 0 with count := 63 }
      ∧ (station.setZero 5 (some { zeroStart 0 with count := 62 })).zero 5 = some { zeroStart 0 with count := 62 } := by decide

/-- The station with port 2 STREAMING, its history of 8 records full. -/
def eightRecords : State :=
  { station with
    ports := station.ports.set 2 { streamingPort with lamp := true },
    rings := station.rings.set 7 { ringReset with frozenBy := some 4 },
    seq := { sequencerReset with
      history := [1, 2, 3, 4, 5, 6, 7, 8].map fun i => { newRecord i 12 i [2, 4] with state := .aborted }, nextId := 9 } }

theorem witness_MarksOpensAttempt :
    -- accepted, with eight records held
    Serves eightRecords (req [0#8, 12#8, 0#8, 0x28#8])
      ∧ (req [0#8, 12#8, 0#8, 0x28#8]).payload
        = [(12#16).extractLsb' 8 8, (12#16).extractLsb' 0 8, (0x28#16).extractLsb' 8 8, (0x28#16).extractLsb' 0 8]
      ∧ 12#16 ≠ 0#16 ∧ 0x28#16 ≠ 0#16 ∧ (0x28#16).getLsbD 0 = false ∧ (∀ i, 11 ≤ i → i ≤ 15 → (0x28#16).getLsbD i = false)
      ∧ [2, 4] = (allLanes.filter fun l => (0x28#16).getLsbD (laneNumber l))
      ∧ (∀ l ∈ ([2, 4] : List LaneIx), (eightRecords.lane l).port ≠ none)
      ∧ lineState eightRecords = .idle ∧ HistoryInv eightRecords
    -- a heat of 0, a mask with bit 11, a lane with port none, and a record open
      ∧ Serves station (req [0#8, 0#8, 0#8, 2#8]) ∧ Serves station (req [0#8, 12#8, 0x08#8, 0#8]) ∧ (0x0800#16).getLsbD 11 = true
      ∧ Serves (station.setLane 0 { factoryLane 0 with port := none }) (req [0#8, 12#8, 0#8, 2#8]) ∧ (2#16).getLsbD (laneNumber 0) = true
      ∧ ((station.setLane 0 { factoryLane 0 with port := none }).lane 0).port = none
      ∧ Serves (withRec .set none) (req [0#8, 12#8, 0#8, 0x28#8]) ∧ lineState (withRec .set none) ≠ .idle := by
  refine ⟨serves_like rfl rfl (by decide) _, by decide, by decide, by decide, by decide, fun i h1 h2 => ?_, by decide, by decide, by decide, ?_,
    station_serves _, station_serves _, by decide, serves_like rfl rfl (by decide) _, by decide, by decide, withRec_serves _ _ _, by decide⟩
  · interval_cases i <;> rfl
  · constructor <;> simp [eightRecords, newRecord, newResult, ChainedTo, nextAttemptId, Record.lanes, Record.isOpen]
theorem witness_AttemptNumberInHeat : (rec1 .aborted none).heat ≠ 13 ∧ (rec1 .aborted none).heat = 12 ∧ (rec1 .aborted none).number ≤ 254
    ∧ ({ rec1 .aborted none with number := 255 } : Record).number = 255 := by decide
theorem witness_SetStartsSettle : Serves (withRec .marks none) (req []) ∧ openRecord (withRec .marks none) = some (rec1 .marks none)
    ∧ (rec1 .marks none).state = .marks ∧ (∀ l ∈ (rec1 .marks none).lanes, ((withRec .marks none).detector l).state ≠ .settling)
    ∧ Serves station (req []) ∧ lineState station ≠ .marks :=
  ⟨withRec_serves _ _ _, by decide, rfl, by decide, station_serves _, by decide⟩

/-- A confirmed crossing held before the shot, with its onset at tick 100. -/
def heldAt100 : Detector :=
  { detectorReset with state := .done, attempt := some 1, held := some { onset := 100#32, bounded := false, stale := false, sat := false } }

theorem witness_StandAborts :
    Serves ((withRec .set none).setDetector 2 heldAt100) (req [])
      ∧ openRecord ((withRec .set none).setDetector 2 heldAt100) = some (rec1 .set none) ∧ (rec1 .set none).state = .set
      ∧ HistoryInv (withRec .set none) ∧ FalseListInv (withRec .set none)
      ∧ ((withRec .set none).setDetector 2 heldAt100).seq = (withRec .set none).seq
      ∧ (rec1 .set none).result 2 = some (newResult 2) ∧ (rec1 .set none).result 4 = some (newResult 4)
      ∧ (((withRec .set none).setDetector 2 heldAt100).detector 2).held = heldAt100.held
      ∧ (((withRec .set none).setDetector 2 heldAt100).detector 4).held = none
      ∧ Serves station (req []) ∧ lineState station = .idle ∧ lineState (withRec .running (some 0)) = .running :=
  ⟨serves_like rfl rfl (by decide) _, by decide, rfl, withRec_history _ _, withRec_false _ _, rfl, by decide, by decide, by decide, by decide,
    station_serves _, by decide, by decide⟩
theorem witness_RecordsReservedAndRuled :
    Serves (withRec .decided (some 0)) (req [0#8, 0#8]) ∧ (withRec .decided (some 0)).seq.history.getLast? = some (rec1 .decided (some 0))
      ∧ Serves station (req [0#8, 0#8]) ∧ station.seq.history.getLast? = none
      ∧ Serves { withRec .decided (some 0) with reservation := some 1 } (req [0#8, 1#8, 5#8, 2#8]) ∧ (5#8).toNat = (4 : LaneIx).val + 1
      ∧ (0#8 ++ 1#8).toNat ≠ 0
      ∧ recordOf { withRec .decided (some 0) with reservation := some 1 } (0#8 ++ 1#8).toNat = some (rec1 .decided (some 0))
      ∧ (4 : LaneIx) ∈ (rec1 .decided (some 0)).lanes ∧ (rec1 .decided (some 0)).isOpen = false
      ∧ (0 : LaneIx) ∉ (rec1 .decided (some 0)).lanes ∧ (rec1 .running (some 0)).isOpen = true
      ∧ Serves (withRec .decided (some 0)) (req [0#8, 1#8, 5#8, 2#8]) ∧ (withRec .decided (some 0)).reservation ≠ some (0#8 ++ 1#8).toNat
    -- an id of 0, a lane byte of 11, a decision of 3
      ∧ Serves station (req [0#8, 0#8, 5#8, 2#8]) ∧ (0#8 ++ 0#8).toNat = 0 ∧ Serves station (req [0#8, 1#8, 11#8, 2#8])
      ∧ Serves station (req [0#8, 1#8, 5#8, 3#8]) ∧ 3#8 ≠ 0x01#8 ∧ 3#8 ≠ 0x02#8 :=
  ⟨withRec_serves _ _ _, by decide, station_serves _, by decide, serves_like rfl rfl (by decide) _, rfl, by decide, by decide,
    by decide, by decide, by decide, by decide, withRec_serves _ _ _, by decide, station_serves _, by decide, station_serves _,
    station_serves _, by decide, by decide⟩
theorem witness_RecallRequestPulses :
    Serves (withRec .running (some 0)) (req []) ∧ HistoryInv (withRec .running (some 0))
      ∧ openRecord (withRec .running (some 0)) = some (rec1 .running (some 0))
      ∧ Serves (withRec .decided (some 0)) (req []) ∧ openRecord (withRec .decided (some 0)) = none
      ∧ (withRec .decided (some 0)).seq.history.getLast? = some (rec1 .decided (some 0))
      ∧ Serves (withRec .marks none) (req []) ∧ lineState (withRec .marks none) = .marks
      ∧ Serves station (req []) ∧ lineState station = .idle ∧ ∀ rec, station.seq.history.getLast? = some rec → rec.state ≠ .decided :=
  ⟨withRec_serves _ _ _, withRec_history _ _, by decide, withRec_serves _ _ _, by decide, by decide, withRec_serves _ _ _, by decide,
    station_serves _, by decide, by simp [station, State.reset, State.afterReset, sequencerReset]⟩

/-- The decided attempt with lane 3's ring of two entries frozen. -/
def frozenRing3 : State :=
  (withRec .decided (some 0)).setRing 2
    { slots := [slotOf 995 100 false true, slotOf 1000 200 false true], writeIndex := 2, count := 2, frozenBy := some 1 }

/-- The same ring with its second entry failing its check. -/
def damagedRing3 : State :=
  (withRec .decided (some 998)).setRing 2
    { slots := [slotOf 995 100 false true, slotOf 1000 200 false false], writeIndex := 2, count := 2, frozenBy := some 1 }

/-- A frozen ring that holds no entry, its attempt without a T0. -/
def emptyRing3 : State := (withRec .aborted none).setRing 2 { ringReset with frozenBy := some 1 }

theorem witness_TraceReturnsEntries :
    Serves frozenRing3 (req [3#8, 0#8, 1#8, 28#8]) ∧ (3#8).toNat = (2 : LaneIx).val + 1 ∧ 1 ≤ (28#8).toNat ∧ (28#8).toNat ≤ 28
      ∧ (0#8 ++ 1#8).toNat ≤ 2047 ∧ (frozenRing3.ring 2).frozenBy = some 1 ∧ (frozenRing3.ring 2).Ok
      ∧ (0#8 ++ 1#8).toNat < (frozenRing3.ring 2).count
      ∧ Serves frozenRing3 (req [3#8, 0#8, 2#8, 1#8]) ∧ (frozenRing3.ring 2).count ≤ (0#8 ++ 2#8).toNat ∧ (frozenRing3.ring 2).count ≠ 0
      ∧ Serves station (req [1#8, 0#8, 0#8, 1#8]) ∧ (station.ring 0).frozenBy = none
      ∧ shotPosition (some 998#32) (frozenRing3.ring 2).held = some 1
    -- a failed entry, and an empty ring
      ∧ Serves damagedRing3 (req [3#8, 0#8, 0#8, 1#8]) ∧ (damagedRing3.ring 2).Ok ∧ (recordOf damagedRing3 1).bind Record.t0 = some 998#32
      ∧ (damagedRing3.ring 2).slots[1]? = some (slotOf 1000 200 false false)
      ∧ shotPosition (some 998#32) (damagedRing3.ring 2).held = some 0
      ∧ Serves emptyRing3 (req [3#8, 0#8, 0#8, 1#8]) ∧ (emptyRing3.ring 2).Ok ∧ (emptyRing3.ring 2).count = 0
      ∧ (recordOf emptyRing3 1).bind Record.t0 = none
    -- a lane byte of 11, a count of 29, a first position of 2048
      ∧ Serves station (req [11#8, 0#8, 0#8, 1#8]) ∧ Serves station (req [1#8, 0#8, 0#8, 29#8]) ∧ Serves station (req [1#8, 8#8, 0#8, 1#8])
      ∧ 2047 < (8#8 ++ 0#8).toNat := by
  refine ⟨serves_like rfl rfl (by decide) _, rfl, by decide, by decide, by decide, by decide, ?_, by decide,
    serves_like rfl rfl (by decide) _, by decide, by decide, station_serves _, by decide, by decide, serves_like rfl rfl (by decide) _, ?_,
    by decide, by decide, by decide, serves_like rfl rfl (by decide) _, ?_, by decide, by decide, station_serves _, station_serves _,
    station_serves _, by decide⟩
  all_goals constructor <;> simp [frozenRing3, damagedRing3, emptyRing3, ringReset, State.ring, State.setRing, slotOf]

/-- The station with a save at its second page. -/
def savingAt16 (taken : Bool) (breaking : Option Nat := none) (deadline : Time := 200#32) : State :=
  { station with
    clock := 100#32,
    store := { state := .saving, markerOffset := some 298, deadline := some deadline, busUsed := false,
               job := .saving { image := List.replicate 40 0#8, nextOffset := 16, breaking := breaking, taken := taken } } }

theorem witness_SaveStartsAndRuns :
    Serves station (req []) ∧ Serves (savingAt16 false) (req [])
      ∧ lineState station = .idle ∧ (∀ l, station.zero l = none) ∧ station.store.state ≠ .saving
      ∧ (savingAt16 false).store.state = .saving
      ∧ (savingAt16 false).store.job = .saving { image := List.replicate 40 0#8, nextOffset := 16, breaking := none, taken := false }
      ∧ (savingAt16 false).store.deadline = some 200#32 ∧ isBefore (savingAt16 false).clock 200#32 = true
      ∧ (savingAt16 true).store.job = .saving { image := List.replicate 40 0#8, nextOffset := 16, breaking := none, taken := true }
      ∧ (savingAt16 true).store.busUsed = false ∧ 16 + 16 < (List.replicate 40 (0#8 : Byte)).length
      ∧ (List.replicate 40 (0#8 : Byte)).length ≤ 32 + 16 ∧ 16 < (List.replicate 40 (0#8 : Byte)).length
    -- the byte that breaks the old end marker; the deadline; no job
      ∧ (savingAt16 true (some 298)).store.job
          = .saving { image := List.replicate 40 0#8, nextOffset := 16, breaking := some 298, taken := true }
      ∧ (savingAt16 true none 100).store.deadline = some (savingAt16 true none 100).clock
      ∧ isBefore (savingAt16 true none 100).clock 100#32 = false ∧ station.store.job = .idle :=
  ⟨station_serves _, serves_like (s := savingAt16 false) rfl rfl (by decide) _, by decide⟩

theorem witness_RestartAndReplies :
    Serves station (req []) ∧ station.resetHeld = false ∧ station.host.rx = .hunt ∧ deAsserted station = false
      ∧ ({ req [] with address := 31#8 } : Request).address = 31#8 ∧ station.store.state ≠ .loading
    -- a reply at the end of its 2 ms, and one before it, whether or not a RESTART's
      ∧ ({ station with host := { station.host with tx := .waiting someReply 0#32, restartPending := true } } : State).host.tx
          = .waiting someReply station.clock
      ∧ (20#32 : Time) ≠ station.clock ∧ ({ station.host with rx := .receive [] } : HostLine).rx ≠ .hunt
      ∧ requestOf (.status (req [0#8])) = some (0x01#8, req [0#8]) ∧ station.host.address = some (req [0#8]).address.toNat
      ∧ (req [0#8]).payload.length ≤ 200
      ∧ ({ station with host := { station.host with tx := .sending someReply } } : State).host.tx = .sending someReply :=
  ⟨station_serves _, by decide, by decide, by decide, rfl, by decide, rfl, by decide, by decide, rfl, rfl, by decide, rfl⟩
theorem witness_BroadcastActsWithoutReply :
    requestOf (.set (req [])) = some (0x21#8, req []) ∧ requestOf (.set { req [] with address := 31#8 }) = some (0x21#8, { req [] with address := 31#8 })
      ∧ Takes (withRec .marks none) (req []) ∧ (0x21#8 : Byte) ≠ 0x39#8
      ∧ exec (.set (req [])) (withRec .marks none) = .next (after (.set (req [])) (withRec .marks none))
    -- a station in address fault, taking a known kind and an unknown one
      ∧ ({ station with host := { station.host with address := none } } : State).host.address = none ∧ station.host.tx = .idle
      ∧ station.host.restartPending = false ∧ kindOfCode 0x21#8 = some .set ∧ kindOfCode 0x77#8 = none
      ∧ requestOf (.unknownKindRequest 0x77#8 { req [] with address := 31#8 }) = some (0x77#8, { req [] with address := 31#8 }) :=
  ⟨rfl, rfl, (withRec_serves _ _ _).1, by decide, rfl, rfl, rfl, rfl, by decide, by decide, rfl⟩
theorem witness_OtherStationsFramesMuted :
    requestOf (.set { req [] with address := 6#8 }) = some (0x21#8, { req [] with address := 6#8 }) ∧ station.resetHeld = false
      ∧ station.host.rx = .hunt ∧ deAsserted station = false ∧ (6#8 : Byte) ≠ 31#8 ∧ station.host.address ≠ some (6#8).toNat := by decide
theorem witness_FrameBytesAreRequest : requestOf (.set (req [])) = some (0x21#8, req []) ∧ (req []).payload.length ≤ 200 := by decide
theorem witness_DamagedFramesCounted :
    station.resetHeld = false ∧ station.host.rx = .hunt ∧ deAsserted station = false ∧ addressed station 5#8 = true
      ∧ [0#8, 0#8] ≠ (requestBytes 0x21#8 (req [])).drop 5 ∧ 200 < (201#8).toNat ∧ 1 < (requestBytes 0x21#8 (req [])).length
      ∧ hostError { data := 1#8, parity := false, stop := true } = true
    -- a byte begun while DE was asserted; a station that is SENDING
      ∧ (∀ b ∈ [({ hostByteOf 0xC3#8 with underDe := true } : HostByte)], b.underDe = true)
      ∧ ({ station with host := { station.host with tx := .sending someReply } } : State).host.tx = .sending someReply := by decide +kernel

/-- The station at tick 20 with this pistol unit and waiting sample. -/
def pistolAt (s : State) (u : PistolUnit) (b : Bool) : State :=
  { s with clock := 20#32, pistol := { pistolReset with unit := u, prev := some (!b), sample := some b } }

theorem witness_PistolQualification :
    (pistolAt station .quiet true).pistol.unit = .quiet ∧ (pistolAt station .quiet true).pistol.prev = some false
      ∧ (pistolAt station .quiet true).pistol.sample = some true
      ∧ (pistolAt station (.qualifying 10 20) false).pistol.unit = .qualifying 10#32 20#32
      ∧ (pistolAt station (.qualifying 10 20) false).pistol.sample = some false
      ∧ ({ station with pistol := { pistolReset with unit := .held, quietRun := 500 } } : State).pistol.quietRun = 500 := by decide
theorem witness_ShotOutsideStart :
    HistoryInv (withRec .running (some 0)) ∧ HistoryInv (withRec .decided (some 9))
    -- unarmed: MARKS, SET with an early edge, IDLE
      ∧ (pistolAt (withRec .marks none) (.qualifying 10 20) true).pistol.unit
          = .qualifying 10#32 (pistolAt (withRec .marks none) (.qualifying 10 20) true).clock
      ∧ (pistolAt (withRec .marks none) (.qualifying 10 20) true).pistol.sample = some true
      ∧ lineState (pistolAt (withRec .marks none) (.qualifying 10 20) true) = .marks
      ∧ lineState (pistolAt (withRec .set none) (.qualifying 10 20) true) = .set
      ∧ openRecord (pistolAt station (.qualifying 10 20) true) = none
      ∧ (pistolAt station (.qualifying 10 20) true).seq.history.getLast? = none
    -- a recall shot in RUNNING, and after the close with T0 9
      ∧ openRecord (pistolAt (withRec .running (some 0)) (.qualifying 10 20) true) = some (rec1 .running (some 0))
      ∧ openRecord (pistolAt (withRec .decided (some 9)) (.qualifying 10 20) true) = none
      ∧ tdiff 10#32 9#32 = 1 ∧ (rec1 .decided (some 9)).recallShot = none :=
  ⟨withRec_history _ _, withRec_history _ _, by decide⟩
/-- The record in SET with lane 3's detector as given, at the qualify end of an edge of tick 10. -/
def shotAt (d : Detector) : State := pistolAt ((withRec .set none).setDetector 2 d) (.qualifying 10 20) true

theorem witness_ShotStartsAttempt :
    (∀ d, (shotAt d).resetHeld = false ∧ (shotAt d).pistol.unit = .qualifying 10#32 20#32 ∧ (shotAt d).clock = 20#32
        ∧ (shotAt d).pistol.sample = some true ∧ (shotAt d).seq = (withRec .set none).seq ∧ (shotAt d).detector 2 = d
        ∧ openRecord (shotAt d) = some (rec1 .set none) ∧ (shotAt d).events.list.length < 32)
      ∧ HistoryInv (withRec .set none) ∧ FalseListInv (withRec .set none) ∧ (withRec .set none).seq.earlyEdge = false
      ∧ (rec1 .set none).result 2 = some (newResult 2) ∧ (newResult 2).verdict = .pending
    -- lane 3 in CAPTURE with 15, 16 and 63 samples; lane 3 without a stream
      ∧ ({ detectorReset with state := .capture, n := 15 } : Detector).n < 16
      ∧ 16 ≤ ({ detectorReset with state := .capture, n := 16, maximum := some 5, minimum := some 0 } : Detector).n
      ∧ ({ detectorReset with state := .capture, n := 63, maximum := some 5, minimum := some 0 } : Detector).n ≤ 63
      ∧ ({ detectorReset with linkOut := true } : Detector).linkOut = true
    -- a held crossing after and before T0, outside the field's limits, and long held
      ∧ heldAt100.state = .done ∧ heldAt100.longHeld = false ∧ tdiff 100#32 10#32 = 90 ∧ tdiff 5#32 10#32 = -5
      ∧ tdiff 32777#32 10#32 = 32767 ∧ 32767 < tdiff 32778#32 10#32 ∧ tdiff (10#32 - 32768#32) 10#32 = -32768
      ∧ tdiff (10#32 - 32769#32) 10#32 < -32768 ∧ ({ heldAt100 with longHeld := true } : Detector).longHeld = true
      ∧ station.line.autoRecall = true ∧ (rec1 .set none).recallPulse = none ∧ (station.lane 2).lampEnable = true
    -- no automatic recall; a record with a recall pulse of its own
      ∧ ({ station with line := { station.line with autoRecall := false } } : State).line.autoRecall = false
      ∧ ({ rec1 .set none with recallPulse := some 4 } : Record).recallPulse ≠ none := by
  refine ⟨fun d => ⟨rfl, rfl, rfl, rfl, rfl, by simp [shotAt, pistolAt, State.detector, State.setDetector], rfl,
      (by decide : station.events.list.length < 32)⟩,
    withRec_history _ _, withRec_false _ _, ?_⟩
  decide
theorem witness_TimersExpire :
    ({ station with driver := .pulsing 0#32 } : State).driver = .pulsing station.clock ∧ 1 ≤ station.line.pulseLength
      ∧ station.line.pulseLength ≤ 10000
      ∧ ({ station with seq := { sequencerReset with recallShotEnd := some 0#32 } } : State).seq.recallShotEnd = some station.clock
      ∧ ((station.setDetector 9 { heldAt100 with heldAgeEnd := some 0#32 }).detector 9).heldAgeEnd = some station.clock
      ∧ ({ station with seq := { sequencerReset with settleEnd := some 0#32 } } : State).seq.settleEnd = some station.clock := by decide

/-- The attempt at its window close. -/
def closing : State :=
  { withRec .running (some 7) with clock := 3007#32, seq := { (withRec .running (some 7)).seq with windowEnd := some 3007#32 } }

theorem witness_WindowCloses : closing.resetHeld = false ∧ closing.seq.windowEnd = some closing.clock
    ∧ openRecord closing = some (rec1 .running (some 7)) ∧ (rec1 .running (some 7)).state = .running
    ∧ (rec1 .running (some 7)).t0 = some 7#32 ∧ HistoryInv closing := by
  refine ⟨by decide, by decide, by decide, by decide, by decide, ?_⟩
  have h := withRec_history .running (some 7)
  exact ⟨h.size, h.ids, h.next, h.chain, h.lanes, h.closed⟩
theorem witness_SampleUpdatesBuffer :
    streaming3.resetHeld = false ∧ (streaming3.port 3).link = .streaming ∧ (streaming3.port 3).inbound = inboundEmpty
      ∧ (streaming3.port 3).brk = .clear ∧ mappedLane streaming3 3 = some 3 ∧ (streaming3.lane 3).commitSet.getLsbD 0 = false
      ∧ (∀ c : Chan, (streaming3.port 3).expected[c] = none)
      ∧ ((streaming3.setPort 11 { streamingPort with expected := #v[some 3, none, none, none] }).port 11).expected[(0 : Chan)] = some 3#4
      ∧ mappedLane (streaming3.setPort 11 streamingPort) 11 = none
    -- a commit channel while summation channel 0 has no value
      ∧ (streaming3.lane 3).commitSet.getLsbD (1 : Chan).val = true ∧ (0 : Chan) ≠ 1
      ∧ (streaming3.lane 3).sumSet.getLsbD (0 : Chan).val = true ∧ (streaming3.assembler 3).raw[(0 : Chan)] = none := by decide
theorem witness_SampleCommitsEntry :
    (streaming3.setAssembler 3 (holding 5 6)).resetHeld = false ∧ mappedLane (streaming3.setAssembler 3 (holding 5 6)) 3 = some 3
      ∧ ((streaming3.setAssembler 3 (holding 5 6)).lane 3).commitSet.getLsbD (1 : Chan).val = true
      ∧ ((streaming3.setAssembler 3 (holding 5 6)).port 3).expected[(1 : Chan)] = none
      ∧ (({ streamingPort with expected := #v[none, some 3, none, none] } : Port).expected[(1 : Chan)] = some 3#4)
      ∧ (∀ k : Chan, (streaming3.lane 3).sumSet.getLsbD k.val = true → ((holding 5 6).raw.set 1 (some 7#16))[k] ≠ none)
      ∧ (streaming3.detector 3).state = .off ∧ streaming3.zero 3 = none := by decide

/-- The station with port 3 LINKING. -/
def linking3 : State :=
  { station with ports := station.ports.set 3 { portReset with link := .linking, presence := true, helloWaitEnd := some 5000#32 } }

theorem witness_HelloBringsLinkUp :
    linking3.resetHeld = false ∧ (linking3.port 3).inbound = inboundEmpty ∧ (linking3.port 3).brk = .clear ∧ 1 ≤ (4#16).toNat ∧ (4#16).toNat ≤ 4
      ∧ (linking3.port 3).link = .linking ∧ linking3.store.state ≠ .loading ∧ (linking3.port 3).sending = none ∧ (linking3.port 3).queue = []
      ∧ ({ linking3 with store := storeReset } : State).store.state = .loading
    -- a break held at its end
      ∧ ((linking3.setPort 3 { linking3.port 3 with brk := .low 0#32 }).port 3).brk = .low linking3.clock
      ∧ isBefore linking3.clock 0#32 = false
    -- a frame being sent, with 7 and 8 frames behind it
      ∧ (linking3.setPort 3 { linking3.port 3 with sending := some .lampOn, queue := List.replicate 7 .lampOff }).port 3
          = { linking3.port 3 with sending := some .lampOn, queue := List.replicate 7 .lampOff }
      ∧ (List.replicate 7 OutFrame.lampOff).length ≤ 8 ∧ (List.replicate 8 OutFrame.lampOff).length ≤ 8
      ∧ (streaming3.port 3).link = .streaming ∧ (streaming3.port 3).streamingSince = some 100#32 ∧ tdiff streaming3.clock 100#32 ≤ 10
      ∧ 10 < tdiff ({ streaming3 with clock := 111#32 } : State).clock 100#32 := by decide
/-- A port with frames waiting behind the one being sent. -/
def queueing (frames : List OutFrame) : Port := { streamingPort with sending := some .lampOn, queue := frames }

theorem witness_StatusFramesTaken :
    (streaming3.port 3).link = .streaming ∧ (streaming3.port 3).sending = none ∧ (streaming3.port 3).queue = [] ∧ (linking3.port 3).link = .linking
      ∧ OutFrame.streamOn ∈ ((streaming3.setPort 3 (queueing [.streamOn])).port 3).queue
      ∧ OutFrame.streamOn ∉ (queueing (List.replicate 7 .lampOff)).queue ∧ (queueing (List.replicate 7 .lampOff)).queue.length < 8
      ∧ OutFrame.streamOn ∉ (queueing (List.replicate 8 .lampOff)).queue ∧ 8 ≤ (queueing (List.replicate 8 .lampOff)).queue.length
      ∧ (helloFields 5#16).status = true ∧ (helloFields 5#16).selector = 0#2 ∧ 4 < (helloFields 5#16).value.toNat
      ∧ (helloFields 0#16).value.toNat = 0 ∧ ({ aliveFields with selector := 3#2 } : LinkFields).selector = 3#2 := by decide
theorem witness_BadFramesCounted :
    (streaming3.port 3).link = .streaming ∧ (streaming3.port 3).inbound = inboundEmpty ∧ (streaming3.port 3).brk = .clear
      ∧ (linkByteOf 0x80#8).data.msb = true ∧ (linkByteOf 0x01#8).data.msb = false ∧ linkCheckAgrees 0x80#8 0x01#8 0x00#8 0x00#8 = false
      ∧ (streaming3.port 3).consecutiveBad ≠ 7
      ∧ ((streaming3.setPort 3 { streamingPort with consecutiveBad := 7 }).port 3).consecutiveBad = 7
    -- the break waiting, being sent, and at its end
      ∧ ((streaming3.setPort 3 { streamingPort with brk := .waits }).port 3).brk = .waits
      ∧ ((streaming3.setPort 3 { streamingPort with brk := .low 111#32 }).port 3).brk = .low 111#32
      ∧ isBefore streaming3.clock 111#32 = true ∧ isBefore streaming3.clock 110#32 = false
    -- a frame under way, begun before and after the break end
      ∧ ((streaming3.setPort 3 { streamingPort with inbound := { bytes := [0x80#8], error := false, early := true } }).port 3).inbound
          = { bytes := [0x80#8], error := false, early := true }
      ∧ ({ bytes := [0x80#8], error := true, early := false } : Inbound).bytes ≠ [] := by decide
theorem witness_SilenceLosesLink :
    (streaming3.setPort 3 { streamingPort with silenceEnd := some 110#32 }).resetHeld = false
      ∧ ((streaming3.setPort 3 { streamingPort with silenceEnd := some 110#32 }).port 3).link = .streaming
      ∧ ((streaming3.setPort 3 { streamingPort with silenceEnd := some 110#32 }).port 3).silenceEnd = some streaming3.clock
      ∧ mappedLane (streaming3.setPort 3 { streamingPort with silenceEnd := some 110#32 }) 3 = some 3
      ∧ ({ detectorReset with state := .watching, attempt := some 1, shotTime := some 5#32 } : Detector).shotTime ≠ none
      ∧ ({ detectorReset with state := .capture, attempt := some 1 } : Detector).shotTime = none
    -- a ZERO of the lane; no detector at work; a link report in OFF and in DONE
      ∧ (streaming3.setZero 3 (some (zeroStart 0))).zero 3 ≠ none ∧ streaming3.zero 3 = none
      ∧ detectorReset.state = .off ∧ detectorReset.attempt = none
      ∧ ({ detectorReset with attempt := some 1 } : Detector).attempt ≠ none ∧ detectorReset.linkOut = false
      ∧ heldAt100.state = .done ∧ heldAt100.held ≠ none ∧ ({ heldAt100 with held := none } : Detector).held = none
      ∧ openRecord (withRec .set none) = some (rec1 .set none) ∧ (rec1 .set none).result 2 = some (newResult 2)
      ∧ (newResult 2).verdict = .pending := by decide
theorem witness_SilenceReportsLink : HistoryInv (withRec .set none) := withRec_history _ _
theorem witness_PresenceAndHelloWait :
    ((station.setPort 3 { portReset with presenceRun := 20 }).port 3).link = .absent
      ∧ ((station.setPort 3 { portReset with presenceRun := 20 }).port 3).presence = false
      ∧ ((station.setPort 3 { portReset with presenceRun := 20 }).port 3).presenceRun = 20
      ∧ ((station.setPort 3 { portReset with link := .linking, helloWaitEnd := some 0#32 }).port 3).helloWaitEnd = some station.clock
      ∧ ((station.setPort 3 { portReset with link := .linking, presence := true, presenceRun := 20 }).port 3).presenceRun = 20
      ∧ ((station.setPort 3 { streamingPort with presenceRun := 20 }).port 3).presenceRun = 20
      ∧ mappedLane (station.setPort 3 { streamingPort with presenceRun := 20 }) 3 = some 3 := by decide
theorem witness_OutboundLine :
    ((station.setPort 3 { portReset with brk := .low 0#32 }).port 3).brk = .low station.clock
      ∧ ((station.setPort 3 { portReset with brk := .low 0#32, queue := [.lampOn] }).port 3).queue = .lampOn :: []
      ∧ ((station.setPort 3 { portReset with brk := .waits, sending := some .streamOff }).port 3).sending = some .streamOff
      ∧ ((station.setPort 3 { portReset with sending := some .streamOff }).port 3).queue = []
    -- an offer with 7 and with 8 frames waiting, during a break, and to an idle line
      ∧ (queueing (List.replicate 7 .lampOff)).sending ≠ none ∧ (List.replicate 7 OutFrame.lampOff).length < 8
      ∧ 8 ≤ (queueing (List.replicate 8 .lampOff)).queue.length ∧ (∃ t, ({ portReset with brk := .low 0#32 } : Port).brk = .low t)
      ∧ portReset.queue = [] ∧ portReset.sending = none ∧ portReset.brk = .clear := by
  refine ⟨by decide, by decide, by decide, by decide, by decide, by decide, by decide, ⟨0#32, rfl⟩, by decide⟩

/-- A part in its load: the job and the deadline. -/
def loadingWith (j : StoreJob) (d : Option Time) : State := { State.reset with started := true, store := { storeReset with job := j, deadline := d } }

/-- The first 80 bytes of an image of three lane records: the end marker is at offset 77, one checksum byte still to come. -/
def threeLanes : List Byte :=
  [0x51#8, 3#8] ++ ([0, 1, 2] : List LaneIx).flatMap (fun l => laneRecord l (factoryLane l)) ++ endMarker ++ [0xA5#8]

theorem witness_LoadStepsToItsEnd :
    (∃ i k p, i ≠ k ∧ (factoryLaneMap.set 0 (factoryLane 1))[(i : LaneIx)].port = some p
        ∧ (factoryLaneMap.set 0 (factoryLane 1))[(k : LaneIx)].port = some p)
      ∧ (loadingWith .addressing (some 200)).resetHeld = false ∧ (∀ p, ((loadingWith .addressing (some 200)).port p).helloPending = false)
      ∧ (loadingWith .addressing (some 200)).store.job = .addressing ∧ isBefore (loadingWith .addressing (some 200)).clock 200#32 = true
      ∧ (loadingWith .addressing (some 0)).store.deadline = some (loadingWith .addressing (some 0)).clock
      ∧ (loadingWith (.reading []) none).store.job = .reading [] ∧ (loadingWith (.reading []) none).store.busUsed = false
      ∧ loadFinding ([] ++ (Vector.replicate 16 (0xFF#8 : Byte)).toList) = .bad none
      ∧ loadFinding ([] ++ (#v[0x51#8, 15#8, 1#8, 23#8, 1#8, 0#8, 3#8, 2#8, 4#8, 0#8, 4#8, 0#8, 4#8, 0#8, 4#8, 0#8] : Vector Byte 16).toList) = .more none
      ∧ loadFinding ([] ++ (#v[0x51#8, 0#8, 0xC0#8, 0xDE#8, 0#8, 0#8, 0#8, 0#8, 0#8, 0#8, 0#8, 0#8, 0#8, 0#8, 0#8, 0#8] : Vector Byte 16).toList)
          = .bad (some 2)
    -- the failing tests
      ∧ (22#8).toNat ≠ 23 ∧ 1019 < 996 + 23 + 1 ∧ (4#8).toNat ≠ 6 ∧ (7#8 : Byte) ≠ 0x01#8 ∧ (7#8 : Byte) ≠ 0x02#8 ∧ (7#8 : Byte) ≠ 0x03#8
      ∧ laneEntryOfBytes (12#8 :: (laneEntryBytes (factoryLane 0)).tail) = none ∧ (0xC0#8 : Byte) ≠ 0xDE#8 :=
  ⟨⟨0, 1, 1, by decide⟩, by decide⟩

/-- A part in its load, port 3 LINKING with the hello of a two-channel pod pending and these frames of its own on the line. -/
def answeredWith (j : StoreJob) (d : Option Time) (sending : Option OutFrame) (queue : List OutFrame) : State :=
  (loadingWith j d).setPort 3
    { portReset with link := .linking, capability := some 2, helloPending := true, sending := sending, queue := queue }

/-- The load's end by its deadline, by an unacknowledged read and by a refused one, each with a hello held pending: an idle outbound line,
and one with a frame being sent and 8 behind it. -/
theorem witness_LoadEndCompletesHellos :
    (answeredWith .addressing (some 0) none []).resetHeld = false
      ∧ (answeredWith .addressing (some 0) none []).store.deadline = some (answeredWith .addressing (some 0) none []).clock
      ∧ (answeredWith (.reading []) none none []).store.job = .reading [] ∧ (answeredWith (.reading []) none none []).store.busUsed = false
      ∧ ((answeredWith (.reading []) none none []).port 3).link = .linking
      ∧ ((answeredWith (.reading []) none none []).port 3).helloPending = true
      ∧ ((answeredWith (.reading []) none none []).port 3).sending = none ∧ ((answeredWith (.reading []) none none []).port 3).brk = .clear
      ∧ ((answeredWith (.reading []) none (some .lampOn) (List.replicate 8 .lampOff)).port 3).sending ≠ none
      ∧ ((answeredWith (.reading []) none (some .lampOn) (List.replicate 8 .lampOff)).port 3).queue.length ≤ 8
      ∧ ((answeredWith (.reading []) none none []).port 3).capability = some 2
      ∧ (answeredWith (.reading []) none none []).laneMap[(3 : LaneIx)].port = some 3
      ∧ (∀ k : LaneIx, (answeredWith (.reading []) none none []).laneMap[k].port = some 3 → k = 3)
      ∧ (∀ l : LaneIx, (answeredWith (.reading []) none none []).laneMap[l].port ≠ some 11)
      ∧ ((answeredWith (.reading []) none none []).port 0).link ≠ .linking := by decide

/-- The end marker found at its place before the checksum has been read. -/
theorem witness_LoadStepsMore : loadFinding (threeLanes.take 64
      ++ (Vector.ofFn fun i : Fin 16 => threeLanes.getD (64 + i.val) 0#8).toList) = .more (some 77) := by decide +kernel

/-- The image's last read of 16 bytes completes a good image. -/
theorem witness_LoadStepsGood : (match loadFinding ((saveImage State.reset).take 288
      ++ (Vector.ofFn fun i : Fin 16 => (saveImage State.reset).getD (288 + i.val) 0#8).toList) with | .good _ o => o == 298 | _ => false) = true := by
  decide +kernel

theorem station_tables : TablesInv station := by
  refine ⟨fun l => ?_, fun n => ?_, factoryLine_ok, by decide, fun l z h => ?_⟩
  · have : station.lane l = factoryLane l := by revert l; decide
    exact this ▸ factoryLane_ok l
  · have : station.profile n = factoryProfile := by revert n; decide
    exact this ▸ factoryProfile_ok
  · exact absurd h ((by decide : ∀ l, station.zero l = none) l ▸ nofun)

theorem witness_StoredImageRoundTrips : TablesInv station := station_tables
theorem witness_EventsAndPulses :
    station.events.list.length < 32 ∧ station.line.attnMode = .level
      ∧ 32 ≤ ({ station.events with list := List.replicate 32 { kind := .glitch, time := 0, lane := none, attempt := 0, value := 0 } } : EventQueue).list.length
      ∧ ({ factoryLine with attnMode := .pulse } : LineSettings).attnMode = .pulse
      ∧ 0 < ({ eventQueueReset with owed := 1 } : EventQueue).owed
    -- a pulse that runs on after a change to LEVEL
      ∧ ({ station with events := { station.events with pulse := true } } : State).events.pulse = true
      ∧ ({ station with events := { station.events with pulse := true } } : State).line.attnMode = .level := by decide
theorem witness_ContributionAndForce : (factoryLane 2).Ok ∧ (holding 5 6).raw[(0 : Chan)] = some 5#16 := ⟨factoryLane_ok 2, rfl⟩

theorem walkRing_ok (a b : Bool) : (walkRing a b).Ok := by constructor <;> simp [walkRing, slotOf]

theorem witness_RingWriteKeepsOrder : (walkRing true false).Ok ∧ (walkRing true false).frozenBy = none ∧ (walkRing true false).count < 2048
    ∧ ({ walkRing true false with frozenBy := some 1 } : Ring).frozenBy = some 1 := ⟨walkRing_ok _ _, rfl, by decide, rfl⟩
/-- A ring of 70 entries, all above the level. -/
def longRise : Ring := { slots := List.replicate 70 (slotOf 5 100 false true), writeIndex := 70, count := 70, frozenBy := none }

theorem witness_OnsetWalkFindsRise :
    -- the walk of section 6.12, k = 2; its failed entry, k = 1; its entry with GAP, k = 0; and the first crossing sample with GAP
    (∀ a b, (walkRing a b).Ok) ∧ (∀ a b, (walkRing a b).positionAt 3 = 3 ∧ (walkRing a b).count = 6)
      ∧ (∀ j (hj : j < [slotOf 501060 3960 false true, slotOf 501055 3850 false true].length),
          (walkRing true false).slot ((walkRing true false).indexAt (3 - (j + 1)))
              = some [slotOf 501060 3960 false true, slotOf 501055 3850 false true][j]
            ∧ [slotOf 501060 3960 false true, slotOf 501055 3850 false true][j].intact = true
            ∧ 3799 < [slotOf 501060 3960 false true, slotOf 501055 3850 false true][j].entry.force
            ∧ [slotOf 501060 3960 false true, slotOf 501055 3850 false true][j].entry.gap = false)
      ∧ (walkRing true false).slot ((walkRing true false).indexAt (3 - (2 + 1))) = some (slotOf 501050 3795 false true)
      ∧ (walkRing false false).slot ((walkRing false false).indexAt (3 - (1 + 1))) = some (slotOf 501055 3850 false false)
      ∧ (walkRing true true).slot ((walkRing true true).indexAt (3 - (0 + 1))) = some (slotOf 501060 3960 true true)
      ∧ ({ index := some 3, time := 501065#32, gap := true } : FirstCrossing).gap = true
    -- none older than the last entry passed, k = 3; and 64 entries read, k = 64
      ∧ (walkRing true false).slot ((walkRing true false).indexAt (3 - (2 + 1))) = some (slotOf 501050 3795 false true) ∧ (3790 : Int) < 3795
      ∧ longRise.Ok ∧ longRise.positionAt 69 = 69
      ∧ ∀ j, j < 64 → longRise.slot (longRise.indexAt (69 - (j + 1))) = some (slotOf 5 100 false true) := by
  refine ⟨walkRing_ok, by decide, fun j hj => ?_, by decide, by decide, by decide, rfl, by decide, by decide, ?_, by decide, by decide⟩
  · obtain rfl | rfl : j = 0 ∨ j = 1 := by simp at hj; omega
    all_goals decide +revert
  · constructor <;> simp [longRise, slotOf]
theorem witness_CaptureBuildsBaseline :
    ((station.setDetector 3 { detectorReset with state := .capture, n := 63, sum := 63 }).detector 3).state = .capture
      ∧ ((station.setDetector 3 { detectorReset with state := .capture, n := 63, sum := 63 }).detector 3).n = 63
      ∧ ((station.setDetector 3 { detectorReset with state := .capture, n := 63, sum := 63 }).detector 3).hold = false
      ∧ ((station.setDetector 3 { detectorReset with state := .capture, hold := true }).detector 3).hold = true
      ∧ HistoryInv (withRec .set none) ∧ openRecord (withRec .set none) = some (rec1 .set none) :=
  ⟨by decide, by decide, by decide, by decide, withRec_history _ _, by decide⟩

/-- The levels of section 6.12. -/
def levels612 : Baseline := { b := 3760, n := 39, theta := 4010, l := 3799, u := 164 }

theorem witness_WatchingEntries :
    ((station.setDetector 3 { detectorReset with state := .watching, baseline := some levels612, unsteadyRun := 39 }).detector 3).state = .watching
      ∧ ((station.setDetector 3 { detectorReset with state := .watching, baseline := some levels612, unsteadyRun := 39 }).detector 3).baseline
          = some levels612
      ∧ (slotOf 0 3925 false true).entry.force < levels612.theta ∧ levels612.u < (((slotOf 0 3925 false true).entry.force - levels612.b).natAbs : Int)
      ∧ (((slotOf 0 3924 false true).entry.force - levels612.b).natAbs : Int) ≤ levels612.u
      ∧ levels612.theta ≤ (slotOf 0 4010 false true).entry.force ∧ (laneProfile station 3).unsteady = true ∧ (laneProfile station 3).p ≠ 1
    -- a persistence of 1; a detector held, and one that knows the shot
      ∧ (laneProfile { station with profiles := station.profiles.set 0 { factoryProfile with p := 1 } } 3).p = 1
      ∧ ({ detectorReset with state := .watching, hold := true } : Detector).hold = true
      ∧ ({ detectorReset with state := .watching, shotTime := some 5#32 } : Detector).shotTime ≠ none
      ∧ HistoryInv (withRec .set none) :=
  ⟨by decide, by decide, by decide, by decide, by decide, by decide, by decide, by decide, by decide, rfl, by decide, withRec_history _ _⟩
/-- A detector with two entries at or above the threshold counted. -/
def crossing612 : Detector :=
  { detectorReset with state := .crossing, baseline := some levels612, persistence := 2,
                       first := some { index := some 3, time := 501065#32, gap := false } }

theorem witness_CrossingsConfirmed :
    -- lane 3 of the record, its third entry at or above the threshold, before and after the shot
    ((withRec .set none).setDetector 2 crossing612).detector 2 = crossing612 ∧ crossing612.state = .crossing
      ∧ levels612.theta ≤ (slotOf 501075 4620 false true).entry.force ∧ 2 + 1 = (laneProfile (withRec .set none) 2).p
      ∧ 1 + 1 ≠ (laneProfile (withRec .set none) 2).p ∧ (slotOf 501070 3990 false true).entry.force < levels612.theta
      ∧ (onsetWalk (walkRing true false) 3799 { index := some 3, time := 501065#32, gap := false } false false).fault = none
      ∧ (onsetWalk (walkRing false false) 3799 { index := some 3, time := 501065#32, gap := false } false false).fault = some 1
      ∧ HistoryInv (withRec .running (some 500000#32)) ∧ openRecord (withRec .running (some 500000#32)) = some (rec1 .running (some 500000#32))
      ∧ (rec1 .running (some 500000#32)).result 2 = some (newResult 2) ∧ tdiff 501055#32 500000#32 = 1055
    -- a FALSE lane; the limits of the field; a long-held mark; no recall when one was given
      ∧ tdiff 500999#32 500000#32 < station.line.reactionLimit ∧ 32767 < tdiff 532768#32 500000#32 ∧ tdiff 467231#32 500000#32 < -32768
      ∧ ({ crossing612 with longHeld := true } : Detector).longHeld = true ∧ 0 ≤ tdiff 500000#32 500000#32
      ∧ ({ rec1 .running none with recallPulse := some 7#32 } : Record).recallPulse ≠ none :=
  ⟨by decide, by decide, by decide, by decide, by decide, by decide, by decide, by decide, withRec_history _ _, by decide, by decide, by decide,
    by decide, by decide, by decide, rfl, by decide, by decide⟩
theorem witness_FalseStartInsertion :
    onsetOf [{ newResult 2 with onset := some 700620#32 }, { newResult 5 with onset := some 700580#32 }] 5 = some 700580#32
      ∧ (700580#32 - 700000#32).toNat < 2147483648
      ∧ (∀ l ∈ ([2] : List LaneIx), ∃ tl, onsetOf [{ newResult 2 with onset := some 700620#32 }, { newResult 5 with onset := some 700580#32 }] l = some tl
          ∧ (tl - 700000#32).toNat < 2147483648) ∧ (5 : LaneIx) ∉ ([2] : List LaneIx) := by
  refine ⟨by decide, by decide, fun l hl => ?_, by decide⟩
  obtain rfl : l = 2 := by simpa using hl
  exact ⟨700620#32, by decide⟩

/-- The station and the decided attempt meet the invariants, and step from there to a next state. -/
theorem witness_invariants :
    QueueInv station ∧ RingsInv station ∧ HistoryInv (withRec .decided (some 0)) ∧ FalseListInv (withRec .decided (some 0)) ∧ TablesInv station
      ∧ HostInv station ∧ step station = .next station ∧ step (withRec .decided (some 0)) = .next (withRec .decided (some 0)) := by
  refine ⟨by unfold QueueInv; decide, fun l => ?_, withRec_history _ _, ?_, station_tables, ⟨by decide, nofun⟩, rfl, rfl⟩
  · have : station.ring l = ringReset := by revert l; decide
    rw [this]; constructor <;> simp [ringReset]
  · intro r hr
    obtain rfl : r = rec1 .decided (some 0) := by simpa [withRec] using hr
    exact ⟨by decide, by decide⟩
theorem witness_LineDrivenOnlyForReplies :
    deAsserted { station with host := { station.host with tx := .sending someReply } } = true
      ∧ exec .replyStart { station with host := { station.host with tx := .waiting someReply 20#32 } }
        = .next { station with host := { station.host with tx := .sending someReply } } := ⟨rfl, rfl⟩
theorem witness_VerdictsAreFinal :
    ({ newResult 2 with verdict := .fair } : LaneResult).verdict ≠ .pending
      ∧ ({ newResult 2 with verdict := .fair } : LaneResult) ∈ ({ rec1 .running none with results := [{ newResult 2 with verdict := .fair }] } : Record).results := by
  decide

end Sys2Proof.Machine.Tests
end

section
/-! PROOFS. Times and their difference (R2, R3). -/

namespace Sys2Proof.Machine

/-- The unsigned count of ticks from one time to another, modulo 2^32 (R2). -/
theorem time_sub_toNat (a b : Time) : (a - b).toNat = (a.toNat + 4294967296 - b.toNat) % 4294967296 := by
  rw [BitVec.toNat_sub]
  have := b.isLt
  omega

/-- The difference of two times by the unsigned count from `b` to `a` (R2). -/
theorem tdiff_eq (a b : Time) :
    tdiff a b = if (a - b).toNat < 2147483648 then ((a - b).toNat : Int) else ((a - b).toNat : Int) - 4294967296 := by
  unfold tdiff
  rw [BitVec.toInt_eq_toNat_cond]
  split <;> split <;> omega

theorem isBefore_iff (a b : Time) : isBefore a b = true ↔ tdiff a b < 0 := by simp [isBefore]

/-- Two times are one exactly when their difference is 0 (R2). -/
theorem eq_iff_tdiff (a b : Time) : a = b ↔ tdiff a b = 0 := by
  rw [tdiff, show (0 : Int) = (0#32).toInt from rfl, BitVec.toInt_inj]
  exact sub_eq_zero.symm

theorem tadd_toNat (t : Time) (n : Nat) : (tadd t n).toNat = (t.toNat + n) % 4294967296 := by simp [tadd]

/-- A time some ticks on, fewer than 2^32, is another time. -/
theorem tadd_ne (t : Time) {n : Nat} (h0 : 0 < n) (h : n < 4294967296) : tadd t n ≠ t := by
  intro e
  have ht := t.isLt
  have hn := tadd_toNat t n
  rw [e] at hn
  omega

/-- Settles O6: the unsigned count decides the sign of the difference, and a count below 2^31 is the difference itself. -/
theorem timeDifferenceIsSigned : Obligations.TimeDifferenceIsSigned := by
  refine ⟨fun a b => ?_, fun a n hn => ?_⟩
  · have hz := eq_iff_tdiff a b
    have hb := isBefore_iff a b
    have hd := tdiff_eq a b
    rw [time_sub_toNat] at hd
    refine ⟨fun h => ?_, fun h => ?_, hb, hz, ?_, ?_, ?_⟩
    · rw [hd, if_pos (by omega)]
    · rw [hd, if_neg (by omega)]
    · rw [hb, hz]; omega
    · rw [hb, hz]; omega
    · rw [← Bool.not_eq_true, hb]; omega
  · have ha := a.isLt
    have forth : (tadd a n - a).toNat = n := by rw [time_sub_toNat, tadd_toNat]; omega
    have back : (a - tadd a n).toNat = (4294967296 - n) % 4294967296 := by rw [time_sub_toNat, tadd_toNat]; omega
    constructor
    · rw [tdiff_eq, forth, if_pos hn]
    · rw [tdiff_eq, back]; split <;> omega

end Sys2Proof.Machine
end

section
/-! PROOFS. The timers of the attempt, of the recall pulse and of the held crossing (R14, R81, R91, R124). -/

namespace Sys2Proof.Machine

theorem recallPulseEndStep_due {s : State} (h : s.driver = .pulsing s.clock) : recallPulseEndStep s = { s with driver := .idle } :=
  if_pos h

theorem recallPulseEndStep_notDue {s : State} (h : s.driver ≠ .pulsing s.clock) : recallPulseEndStep s = s := if_neg h

theorem recallShotEndStep_due {s : State} (h : s.seq.recallShotEnd = some s.clock) :
    recallShotEndStep s = { s with seq := { s.seq with recallShotEnd := none } } := if_pos h

theorem heldAgeEndStep_due {s : State} {l : LaneIx} (h : (s.detector l).heldAgeEnd = some s.clock) :
    heldAgeEndStep l s = s.setDetector l { s.detector l with longHeld := true } := if_pos h

theorem settleEndStep_due {s : State} (h : s.seq.settleEnd = some s.clock) :
    settleEndStep s =
      { s with seq := { s.seq with settleEnd := none } }.mapDetectors (openLanes s) Detector.settleEnded := if_pos h

/-- The settle end of the lanes that meet a condition changes those of them that are SETTLING (R91, R106). -/
theorem Detector.settleEnded_if {p : Prop} [Decidable p] (d : Detector) :
    (if p then d.settleEnded else d) = if p ∧ d.state = .settling then { d with state := .capture } else d := by
  unfold Detector.settleEnded
  by_cases hp : p <;> simp [hp]

/-- A pulse request and the end of the pulse before it commute at one tick (R14). -/
theorem pulseRequest_recallPulseEndStep {s : State} (manual : Bool) (id : Nat) (h : s.driver = .pulsing s.clock)
    (h1 : 1 ≤ s.line.pulseLength) (h2 : s.line.pulseLength ≤ 10000) :
    pulseRequest manual id (recallPulseEndStep s) = recallPulseEndStep (pulseRequest manual id s) := by
  have hne : (pulseRequest manual id s).driver ≠ .pulsing (pulseRequest manual id s).clock := fun e =>
    tadd_ne s.clock (n := s.line.pulseLength) (by omega) (by omega) (RecallDriver.pulsing.inj e)
  rw [recallPulseEndStep_due h, recallPulseEndStep_notDue hne]
  rfl

/-- Settles O33: each timer's step at its end time in closed form, and the two orders of a pulse request and a pulse end. -/
theorem timersExpire : Obligations.TimersExpire := by
  refine ⟨fun s hr h => ?_, fun s manual id h h1 h2 => ⟨pulseRequest_recallPulseEndStep manual id h h1 h2, rfl⟩, fun s hr h => ?_,
    fun s l hr h => ?_, fun s hr h => ?_⟩
  · exact (live_running recallPulseEndStep hr).trans (by rw [recallPulseEndStep_due h])
  · exact (live_running recallShotEndStep hr).trans (by rw [recallShotEndStep_due h])
  · exact (live_running (heldAgeEndStep l) hr).trans (by rw [heldAgeEndStep_due h]; rfl)
  · refine (live_running settleEndStep hr).trans ?_
    simp only [settleEndStep_due h, State.mapDetectors, Detector.settleEnded_if]
    rfl

end Sys2Proof.Machine
end

section
/-! PROOFS. The pistol input unit (R5 to R8) and what the sequencer makes of its notices (R92, R94, R95). -/

namespace Sys2Proof.Machine

/-- The detectors of the open record when a qualification starts, lane by lane (R92, R109, R113). -/
theorem qualificationStarted_eq (s : State) : qualificationStarted s =
    { s with detectors := Vector.ofFn fun l =>
        if l ∈ openLanes s then
          match (s.detector l).state with
          | .off | .done => s.detector l
          | .watching => { s.detector l with hold := true, unsteadyRun := 0 }
          | .settling | .capture | .crossing => { s.detector l with hold := true }
        else s.detector l } := by
  have h : ∀ d : Detector, d.qualificationStarted =
      match d.state with
      | .off | .done => d
      | .watching => { d with hold := true, unsteadyRun := 0 }
      | .settling | .capture | .crossing => { d with hold := true } := by
    intro d; unfold Detector.qualificationStarted; cases d.state <;> rfl
  simp only [qualificationStarted, State.mapDetectors, h]
  rfl

/-- A glitch clears the hold mark, and with it the unsteady run of a detector held in WATCHING (R110, R113). -/
theorem Detector.glitched_eq (d : Detector) : d.glitched =
    { d with hold := false, unsteadyRun := if d.hold = true ∧ d.state = .watching then 0 else d.unsteadyRun } := by
  unfold Detector.glitched; split <;> rfl

theorem glitchNotice_eq (s : State) : glitchNotice s =
    { s with
      seq := { s.seq with earlyEdge := false },
      detectors := Vector.ofFn fun l =>
        if l ∈ openLanes s then
          { s.detector l with
            hold := false,
            unsteadyRun := if (s.detector l).hold = true ∧ (s.detector l).state = .watching then 0 else (s.detector l).unsteadyRun }
        else s.detector l } := by
  simp only [glitchNotice, State.mapDetectors, Detector.glitched_eq]
  rfl

theorem pistolEdgeStep_due {s : State} (hu : s.pistol.unit = .quiet) (hp : s.pistol.prev = some false) (hs : s.pistol.sample = some true) :
    pistolEdgeStep s = qualificationStarted
      { s with pistol := { s.pistol with unit := .qualifying s.clock (tadd s.clock s.line.qualify), prev := some true, sample := none } } :=
  if_pos ⟨hu, hp, hs⟩

/-- The part with its pistol unit HELD after an accepted shot (R6). -/
def State.pistolHeld (s : State) : State :=
  { s with pistol := { s.pistol with unit := .held, prev := some true, sample := none, quietRun := 0 } }

theorem HistoryInv.pistolHeld {s : State} (h : HistoryInv s) : HistoryInv s.pistolHeld :=
  ⟨h.size, h.ids, h.next, h.chain, h.lanes, h.closed⟩

theorem shotAcceptedStep_due {s t : State} {te : Time} (hu : s.pistol.unit = .qualifying te s.clock) (hs : s.pistol.sample = some true)
    (h : shotMeaning te s.pistolHeld = t) :
    shotAcceptedStep s = { t with seq := { t.seq with earlyEdge := false } } := by
  unfold shotAcceptedStep; rw [hu, ← h]; exact if_pos ⟨rfl, hs⟩

theorem glitchStep_due {s : State} {te qe : Time} (hu : s.pistol.unit = .qualifying te qe) (hs : s.pistol.sample = some false) :
    glitchStep s = place .glitch none (openId s) (BitVec.ofNat 32 (min (s.pistol.glitchCount + 1) 65535))
      (glitchNotice { s with pistol := { s.pistol with unit := .quiet, prev := some false, sample := none,
                                                       glitchCount := min (s.pistol.glitchCount + 1) 65535 } }) := by
  unfold glitchStep; rw [hu]; exact if_pos hs

theorem pistolHoldEndStep_due {s : State} (hu : s.pistol.unit = .held) (hq : s.pistol.quietRun = 500) :
    pistolHoldEndStep s = { s with pistol := { s.pistol with unit := .quiet, quietRun := 0 } } := if_pos ⟨hu, hq⟩

/-- Settles O30: the edge, the glitch and the end of the hold, each in closed form. -/
theorem pistolQualification : Obligations.PistolQualification := by
  refine ⟨fun s hr hu hp hs => ?_, fun s te qe hr hu hs => ?_, fun s hr hu hq => ?_⟩
  · refine (live_running pistolEdgeStep hr).trans ?_
    rw [pistolEdgeStep_due hu hp hs, qualificationStarted_eq]
    rfl
  · refine (live_running glitchStep hr).trans ?_
    rw [glitchStep_due hu hs, glitchNotice_eq]
    rfl
  · exact (live_running pistolHoldEndStep hr).trans (by rw [pistolHoldEndStep_due hu hq])

/-- The line state is that of the open record, or IDLE (R80). -/
theorem lineState_cases (s : State) :
    (openRecord s = none ∧ lineState s = .idle) ∨ ∃ r, openRecord s = some r ∧
      ((r.state = .marks ∧ lineState s = .marks) ∨ (r.state = .set ∧ lineState s = .set) ∨ (r.state = .running ∧ lineState s = .running)) := by
  cases ho : openRecord s with
  | none => exact .inl ⟨rfl, by simp [lineState, ho]⟩
  | some r =>
    refine .inr ⟨r, rfl, ?_⟩
    have hopen := openRecord_open ho
    cases hr : r.state <;> simp [lineState, Record.isOpen, ho, hr] at hopen ⊢

/-- The value of an UNARMED_SHOT event (R95). -/
theorem lineStateCode_setWidth (x : LineState) : (lineStateCode x).setWidth 32 =
    match x with | .idle => 0#32 | .marks => 1#32 | .set => 2#32 | .running => 3#32 := by cases x <;> rfl

/-- In IDLE a shot is no recall shot once the newest record is not DECIDED, its span is over, it has a recall shot, or the shot lies outside
the span (R94, R95). -/
theorem recallShotInIdle_none {s : State} {te : Time}
    (h : ∀ rec, s.seq.history.getLast? = some rec → rec.state ≠ .decided ∨ s.seq.recallShotEnd = none ∨ rec.recallShot ≠ none
      ∨ ∀ t0, rec.t0 = some t0 → tdiff te t0 < 1 ∨ 30000 < tdiff te t0) : recallShotInIdle te s = none := by
  unfold recallShotInIdle newestRecord
  cases hn : s.seq.history.getLast? with
  | none => rfl
  | some r =>
    cases ht : r.t0 with
    | none => simp [ht]
    | some t0 =>
      simp only [ht]
      refine if_neg ?_
      rintro ⟨hd, he, h1, h2, hr⟩
      rcases h r hn with k | k | k | k
      · exact k hd
      · simp [k] at he
      · exact k hr
      · have := k t0 ht; omega

/-- In IDLE a shot within the span of the newest record, DECIDED and without a recall shot, is its recall shot (R94). -/
theorem recallShotInIdle_some {s : State} {te t0 : Time} {r : Record} (hn : s.seq.history.getLast? = some r) (ht : r.t0 = some t0)
    (hd : r.state = .decided) (he : s.seq.recallShotEnd ≠ none) (h1 : 1 ≤ tdiff te t0) (h2 : tdiff te t0 ≤ 30000)
    (hr : r.recallShot = none) : recallShotInIdle te s = some r := by
  simp [recallShotInIdle, newestRecord, hn, ht, hd, h1, h2, hr, Option.isSome_iff_ne_none, he]

/-- An accepted shot is unarmed in MARKS, in SET after an early edge, and in IDLE when it is no recall shot (R95). -/
theorem shotMeaning_unarmed {s : State} {te : Time}
    (h : lineState s = .marks ∨ (lineState s = .set ∧ s.seq.earlyEdge = true) ∨ (openRecord s = none ∧ recallShotInIdle te s = none)) :
    shotMeaning te s = unarmedShot s := by
  unfold shotMeaning
  rcases lineState_cases s with ⟨ho, hl⟩ | ⟨r, ho, ⟨hr, hl⟩ | ⟨hr, hl⟩ | ⟨hr, hl⟩⟩ <;> simp_all

/-- An accepted shot in RUNNING is a recall shot of the open record (R94). -/
theorem shotMeaning_running {s : State} {te : Time} {r : Record} (ho : openRecord s = some r) (hr : r.state = .running) :
    shotMeaning te s = recallShot te r s := by
  simp [shotMeaning, ho, hr]

/-- An accepted shot in IDLE that is a recall shot of the newest record (R94). -/
theorem shotMeaning_idle {s : State} {te : Time} {r : Record} (ho : openRecord s = none) (hr : recallShotInIdle te s = some r) :
    shotMeaning te s = recallShot te r s := by
  simp [shotMeaning, ho, hr]

/-- The record with its recall shot time: the one it has, or this one (R94). -/
def Record.takeRecallShot (te : Time) (r : Record) : Record := { r with recallShot := some (r.recallShot.getD te) }

theorem recallShot_change {te t0 : Time} {r : Record} (s : State) (ht : r.t0 = some t0) :
    recallShot te r s = place .recallShot none r.id (te - t0) (changeRecord r.id (Record.takeRecallShot te) s) := by
  have hf : ∀ x : Record, x.takeRecallShot te = { x with recallShot := match x.recallShot with | none => some te | some t => some t } := by
    intro x; unfold Record.takeRecallShot; cases x.recallShot <;> rfl
  rw [recallShot, ht, funext hf]
  rfl

/-- A recall shot changes the history exactly when its record has no recall shot time yet (R86, R94). -/
theorem takeRecallShot_history {s : State} {te : Time} {r : Record} (h : HistoryInv s) (hm : r ∈ s.seq.history) :
    (s.seq.history.map fun x => if x.id = r.id then x.takeRecallShot te else x) = s.seq.history ↔ r.recallShot ≠ none := by
  rw [map_eq_self]
  constructor
  · intro hx hn
    have := congrArg Record.recallShot (hx r hm)
    simp [Record.takeRecallShot, hn] at this
  · intro hn x hx
    split
    · next hid =>
      obtain rfl := h.eq_of_id hx hm hid
      obtain ⟨t, ht⟩ := Option.ne_none_iff_exists'.mp hn
      unfold Record.takeRecallShot
      rw [ht, Option.getD_some, ← ht]
    · rfl

/-- A recall shot of a record that is held: its time is kept or taken, with the change notice when it is taken (R94, R101, R152). -/
theorem recallShot_eq {s : State} {te t0 : Time} {r : Record} (h : HistoryInv s) (hm : r ∈ s.seq.history) (ht : r.t0 = some t0) :
    recallShot te r s =
      { s with
        seq := { s.seq with history := s.seq.history.map fun x => if x.id = r.id then x.takeRecallShot te else x },
        reservation := if r.recallShot = none ∧ s.reservation = some r.id then none else s.reservation,
        events := arrive s.line.attnMode
          { kind := .recallShot, time := s.clock, lane := none, attempt := r.id, value := te - t0 } s.events } := by
  simp only [recallShot_change s ht, changeRecord_eq, place, takeRecallShot_history h hm]
  by_cases hn : r.recallShot = none <;> simp [hn]

/-- Settles O31: what the shot means is decided by the line state and the newest record. -/
theorem shotOutsideStart : Obligations.ShotOutsideStart := by
  refine ⟨fun s te hr hu hs h => ?_, fun s te t0 rec hr hu hs hi ht h => ?_⟩
  all_goals refine (live_running shotAcceptedStep hr).trans ?_
  · have hm : shotMeaning te s.pistolHeld = unarmedShot s.pistolHeld :=
      shotMeaning_unarmed (h.imp_right (.imp_right fun ⟨ho, hn⟩ => ⟨ho, recallShotInIdle_none hn⟩))
    rw [shotAcceptedStep_due hu hs hm, unarmedShot, lineStateCode_setWidth]
    rfl
  · obtain ⟨hheld, hm⟩ : rec ∈ s.seq.history ∧ shotMeaning te s.pistolHeld = recallShot te rec s.pistolHeld := by
      rcases h with ⟨ho, hrun⟩ | ⟨ho, hn, hd, he, h1, h2, hrs⟩
      · exact ⟨openRecord_mem ho, shotMeaning_running ho hrun⟩
      · exact ⟨List.mem_of_getLast? hn, shotMeaning_idle ho (recallShotInIdle_some hn ht hd he h1 h2 hrs)⟩
    rw [shotAcceptedStep_due hu hs (hm.trans (recallShot_eq hi.pistolHeld hheld ht))]
    rfl

end Sys2Proof.Machine
end

section
/-! PROOFS. What the events that a TICK takes leave unchanged (R3, R26): frames of the pistol, link, attempt and store steps. -/

namespace Sys2Proof.Machine

/-! ### The frame of a due event -/

/-- The debounced level that a port has once its presence change, if one is due, has been taken (R26). -/
def Port.levelDue (x : Port) : Bool := if x.presenceRun = 20 then !x.presence else x.presence

/-- What an event due at a tick keeps, pistol and reply apart: the time, the settings of the line, the pistol unit and the host line, and of
each port the debounced level that it is coming to. -/
structure DueFrame (s t : State) : Prop where
  clock     : t.clock = s.clock
  resetHeld : t.resetHeld = s.resetHeld
  started   : t.started = s.started
  line      : t.line = s.line
  host      : t.host = s.host
  pistol    : t.pistol = s.pistol
  level     : ∀ p, (t.port p).levelDue = (s.port p).levelDue
  runs      : ∀ p, (s.port p).presenceRun ≠ 20 → (t.port p).presenceRun ≠ 20

theorem DueFrame.refl (s : State) : DueFrame s s := ⟨rfl, rfl, rfl, rfl, rfl, rfl, fun _ => rfl, fun _ h => h⟩

theorem DueFrame.trans {a b c : State} (h : DueFrame a b) (k : DueFrame b c) : DueFrame a c :=
  ⟨k.clock.trans h.clock, k.resetHeld.trans h.resetHeld, k.started.trans h.started, k.line.trans h.line, k.host.trans h.host,
    k.pistol.trans h.pistol, fun p => (k.level p).trans (h.level p), fun p hp => k.runs p (h.runs p hp)⟩

/-- A step that writes none of the ports has the frame when it keeps the other fields. -/
theorem DueFrame.of_ports {s t : State} (clock : t.clock = s.clock) (resetHeld : t.resetHeld = s.resetHeld) (started : t.started = s.started)
    (line : t.line = s.line) (host : t.host = s.host) (pistol : t.pistol = s.pistol) (ports : t.ports = s.ports) : DueFrame s t := by
  have port : ∀ p, t.port p = s.port p := fun p => by rw [State.port, ports, State.port]
  exact ⟨clock, resetHeld, started, line, host, pistol, fun p => by rw [port], fun p hp => by rw [port]; exact hp⟩

theorem DueFrame.onlyRecords {s t : State} (h : OnlyRecords s t) : DueFrame s t :=
  .of_ports h.clock h.resetHeld h.started h.line h.host h.pistol h.ports

theorem DueFrame.place (k : EventKind) (l : Option LaneIx) (a : Nat) (v : BitVec 32) (s : State) : DueFrame s (place k l a v s) :=
  .of_ports rfl rfl rfl rfl rfl rfl rfl

theorem DueFrame.setDetector (s : State) (l : LaneIx) (d : Detector) : DueFrame s (s.setDetector l d) :=
  .onlyRecords (.setDetector s l d)

theorem DueFrame.changeRecord (id : Nat) (f : Record → Record) (s : State) : DueFrame s (changeRecord id f s) :=
  .onlyRecords (.changeRecord id f s)

theorem DueFrame.setPort {s : State} {p : PortIx} {x : Port} (level : x.levelDue = (s.port p).levelDue)
    (runs : (s.port p).presenceRun ≠ 20 → x.presenceRun ≠ 20) : DueFrame s (s.setPort p x) := by
  refine ⟨rfl, rfl, rfl, rfl, rfl, rfl, fun q => ?_, fun q => ?_⟩ <;> rw [State.setPort_port] <;> split
  · next h => rw [← h]; exact level
  · rfl
  · next h => rw [← h]; exact runs
  · exact id

/-- A port written with its debounced level and its presence run kept. -/
theorem DueFrame.setPort_presence {s : State} {p : PortIx} {x : Port} (hp : x.presence = (s.port p).presence)
    (hr : x.presenceRun = (s.port p).presenceRun) : DueFrame s (s.setPort p x) :=
  .setPort (by rw [Port.levelDue, Port.levelDue, hp, hr]) (by rw [hr]; exact id)

theorem DueFrame.forLanes {f : LaneIx → State → State} (h : ∀ l t, DueFrame t (f l t)) (ls : List LaneIx) (s : State) :
    DueFrame s (forLanes ls f s) := forLanes_induct (P := DueFrame s) ls (.refl s) fun l _ t ht => ht.trans (h l t)

theorem DueFrame.forPorts {f : PortIx → State → State} (h : ∀ p t, DueFrame t (f p t)) (ps : List PortIx) (s : State) :
    DueFrame s (forPorts ps f s) := forPorts_induct (P := DueFrame s) ps (.refl s) fun p _ t ht => ht.trans (h p t)

/-! ### The outbound queue of a port -/

/-- The next frame that a port begins is its oldest waiting one, and nothing else of the port changes (R18). -/
theorem beginNext_writes (x : Port) : beginNext x = { x with sending := (beginNext x).sending, queue := (beginNext x).queue } := by
  unfold beginNext; split <;> rfl

/-- A frame offered changes the port's outbound queue alone (R18). -/
theorem offerFrame_writes (f : OutFrame) (x : Port) :
    offerFrame f x = { x with sending := (offerFrame f x).sending, queue := (offerFrame f x).queue } := by
  unfold offerFrame
  split
  · exact beginNext_writes _
  · rfl

theorem DueFrame.lampOn (l : LaneIx) (s : State) : DueFrame s (lampOn l s) := by
  unfold Machine.lampOn
  split
  · exact .refl s
  · next p _ =>
    split
    · have h := offerFrame_writes .lampOn (s.port p)
      exact .setPort_presence (congrArg Port.presence h :) (congrArg Port.presenceRun h :)
    · exact .refl s

/-! ### The shot's reports -/

theorem DueFrame.pulseRequest (manual : Bool) (id : Nat) (s : State) : DueFrame s (pulseRequest manual id s) :=
  .of_ports rfl rfl rfl rfl rfl rfl rfl

theorem DueFrame.autoRecall (s : State) : DueFrame s (autoRecall s) := by
  unfold Machine.autoRecall
  split
  · exact .refl s
  · split
    · exact (changeRecord _ _ s).trans (.pulseRequest _ _ _)
    · exact .refl s

theorem DueFrame.falseActs (l : LaneIx) (rt : Option Int) (s : State) : DueFrame s (falseActs l rt s) := by
  unfold Machine.falseActs
  split
  · exact .refl s
  · simp only
    split
    · exact (place _ _ _ _ s).trans ((lampOn l _).trans (autoRecall _))
    · exact place _ _ _ _ s

theorem DueFrame.reportJudge (l : LaneIx) (onset : Time) (rt : Int) (f : LaneFlags) (s : State) :
    DueFrame s (reportJudge l onset rt f s) := by
  unfold Machine.reportJudge
  split
  · exact .refl s
  · split
    · split
      · exact (changeRecord _ _ s).trans (falseActs _ _ _)
      · exact changeRecord _ _ s
    · exact .onlyRecords (.reportFlags l f s)

/-- What a detector does when the shot is fired keeps the frame (R111, R125). -/
theorem DueFrame.shotFired (t0 : Time) (l : LaneIx) (s : State) : DueFrame s (shotFired t0 l s) := by
  have unsure := fun d f => (setDetector s l d).trans (.onlyRecords (.reportUnsure l f _))
  unfold Machine.shotFired
  simp only
  split
  · split
    · exact unsure _ _
    · exact setDetector _ _ _
  · exact unsure _ _
  · split
    · exact unsure _ _
    · exact (setDetector _ _ _).trans ((setDetector _ _ _).trans (.onlyRecords (.reportBaseline _ _ _ _ _)))
  · exact setDetector _ _ _
  · exact setDetector _ _ _
  · split
    · exact setDetector _ _ _
    · exact (setDetector _ _ _).trans (reportJudge _ _ _ _ _)

theorem DueFrame.startAttempt (te : Time) (r : Record) (s : State) : DueFrame s (startAttempt te r s) := by
  unfold Machine.startAttempt
  refine .trans ?_ (.forLanes (shotFired te) r.lanes _)
  exact (changeRecord r.id _ s).trans (.of_ports rfl rfl rfl rfl rfl rfl rfl)

theorem DueFrame.recallShot (te : Time) (r : Record) (s : State) : DueFrame s (recallShot te r s) :=
  (changeRecord r.id _ s).trans (place _ _ _ _ _)

/-- Whatever an accepted shot means, it keeps the frame (R93 to R95). -/
theorem DueFrame.shotMeaning (te : Time) (s : State) : DueFrame s (shotMeaning te s) := by
  unfold Machine.shotMeaning
  split
  · split
    · split
      · exact startAttempt _ _ s
      · exact place _ _ _ _ s
    · exact recallShot _ _ s
    · exact place _ _ _ _ s
  · split
    · exact recallShot _ _ s
    · exact place _ _ _ _ s

/-! ### The pistol's events -/

/-- The frame of a pistol event, which writes the pistol unit besides. -/
def PistolFrame (s t : State) : Prop := DueFrame { s with pistol := t.pistol } t

theorem PistolFrame.refl (s : State) : PistolFrame s s := DueFrame.refl s

theorem PistolFrame.trans {a b c : State} (h : PistolFrame a b) (k : PistolFrame b c) : PistolFrame a c :=
  ⟨k.clock.trans h.clock, k.resetHeld.trans h.resetHeld, k.started.trans h.started, k.line.trans h.line, k.host.trans h.host, rfl,
    fun p => (k.level p).trans (h.level p), fun p hp => k.runs p (h.runs p hp)⟩

theorem PistolFrame.clock {s t : State} (h : PistolFrame s t) : t.clock = s.clock :=
  DueFrame.clock (s := { s with pistol := t.pistol }) h
theorem PistolFrame.resetHeld {s t : State} (h : PistolFrame s t) : t.resetHeld = s.resetHeld :=
  DueFrame.resetHeld (s := { s with pistol := t.pistol }) h
theorem PistolFrame.started {s t : State} (h : PistolFrame s t) : t.started = s.started :=
  DueFrame.started (s := { s with pistol := t.pistol }) h
theorem PistolFrame.host {s t : State} (h : PistolFrame s t) : t.host = s.host :=
  DueFrame.host (s := { s with pistol := t.pistol }) h
theorem PistolFrame.levelDue {s t : State} (h : PistolFrame s t) (p : PortIx) : (t.port p).levelDue = (s.port p).levelDue :=
  DueFrame.level h p

/-- A step with the frame after the pistol unit has been written. -/
theorem PistolFrame.of_pistol {s t : State} {x : Pistol} (h : DueFrame { s with pistol := x } t) : PistolFrame s t := by
  rw [PistolFrame, h.pistol]; exact h

theorem DueFrame.pistolFrame {s t : State} (h : DueFrame s t) : PistolFrame s t := .of_pistol h

theorem PistolFrame.pistolEdgeStep (s : State) : PistolFrame s (pistolEdgeStep s) := by
  unfold Machine.pistolEdgeStep
  split
  · exact .of_pistol (.of_ports rfl rfl rfl rfl rfl rfl rfl)
  · exact .refl s

theorem PistolFrame.shotAcceptedStep (s : State) : PistolFrame s (shotAcceptedStep s) := by
  unfold Machine.shotAcceptedStep
  split
  · split
    · exact .of_pistol ((DueFrame.shotMeaning _ _).trans (.of_ports rfl rfl rfl rfl rfl rfl rfl))
    · exact .refl s
  · exact .refl s

theorem PistolFrame.glitchStep (s : State) : PistolFrame s (glitchStep s) := by
  unfold Machine.glitchStep
  split
  · split
    · exact .of_pistol (.of_ports rfl rfl rfl rfl rfl rfl rfl)
    · exact .refl s
  · exact .refl s

theorem PistolFrame.pistolHoldEndStep (s : State) : PistolFrame s (pistolHoldEndStep s) := by
  unfold Machine.pistolHoldEndStep
  split
  · exact .of_pistol (.refl _)
  · exact .refl s

end Sys2Proof.Machine
end

section
/-! PROOFS. The events of the lane link ports that a TICK takes: presence, break ends, silence ends and hello waits (R26, R28, R31, R32). -/

namespace Sys2Proof.Machine

/-! ### A fold takes each of its events -/

/-- A fold whose step at each index leaves something true of that index, which the steps at other indices keep, leaves it true of all. -/
theorem foldl_establishes {α : Type} {f : α → State → State} {I : State → Prop} {Q : α → State → Prop}
    (hI : ∀ k t, I t → I (f k t)) (hset : ∀ k t, I t → Q k (f k t)) (hkeep : ∀ k j t, k ≠ j → I t → Q j t → Q j (f k t))
    (ks : List α) {s : State} (h : I s) (j : α) (hj : j ∈ ks ∨ Q j s) : Q j (ks.foldl (fun t k => f k t) s) := by
  induction ks generalizing s with
  | nil => simpa using hj
  | cons k ks ih =>
    refine ih (hI k s h) ?_
    by_cases hk : k = j
    · exact .inr (hk ▸ hset k s h)
    · rcases hj with hj | hj
      · exact .inl ((List.mem_cons.mp hj).resolve_left fun e => hk e.symm)
      · exact .inr (hkeep k j s hk h hj)

/-- A fold over the twelve ports whose step writes no other port leaves of every port what the step leaves of its own. -/
theorem forPorts_establishes {f : PortIx → State → State} {P : Port → Prop} {c : Time} (hclock : ∀ p t, (f p t).clock = t.clock)
    (hother : ∀ p q t, p ≠ q → (f p t).port q = t.port q) (hset : ∀ p t, t.clock = c → P ((f p t).port p))
    {s : State} (h : s.clock = c) (q : PortIx) : P ((forPorts allPorts f s).port q) :=
  foldl_establishes (I := fun t => t.clock = c) (Q := fun q t => P (t.port q)) (fun p t ht => (hclock p t).trans ht) hset
    (fun p q t hpq _ hq => by rw [hother p q t hpq]; exact hq) allPorts h q (.inl (mem_allPorts q))

/-! ### Link resets -/

/-- What a link reset writes: its own port, and of the mapped lane the buffer and the ZERO (R28, R58, R77). -/
theorem linkReset_writes (p : PortIx) (lane : Option LaneIx) (s : State) : linkReset p lane s =
    { s with ports := s.ports.set p ((s.port p).linkReset s.clock), assemblers := (linkReset p lane s).assemblers,
             zeros := (linkReset p lane s).zeros, events := (linkReset p lane s).events } := by
  unfold linkReset failZero
  cases lane with
  | none => rfl
  | some l =>
    simp only
    split
    · split <;> rfl
    · rfl

theorem linkReset_port (p q : PortIx) (lane : Option LaneIx) (s : State) :
    (linkReset p lane s).port q = if p = q then (s.port p).linkReset s.clock else s.port q := by
  rw [linkReset_writes]
  exact State.setPort_port s p q _

/-- A link reset leaves a port LINKING with its hello wait begun and no break end or silence end due now (R28). -/
theorem Port.linkReset_ends (now : Time) (x : Port) : (x.linkReset now).link = .linking
    ∧ (x.linkReset now).helloWaitEnd = some (tadd now 5000) ∧ (x.linkReset now).brk ≠ .low now := by
  rw [Port.linkReset_eq]
  refine ⟨rfl, rfl, ?_⟩
  simp only
  split
  · exact fun h => tadd_ne now (n := 1) (by omega) (by omega) (BreakState.low.inj h)
  · exact BreakState.noConfusion

theorem Port.linkReset_presence (now : Time) (x : Port) :
    (x.linkReset now).presence = x.presence ∧ (x.linkReset now).presenceRun = x.presenceRun := by
  rw [Port.linkReset_eq]; exact ⟨rfl, rfl⟩

theorem DueFrame.linkReset (p : PortIx) (lane : Option LaneIx) (s : State) : DueFrame s (linkReset p lane s) := by
  obtain ⟨hp, hr⟩ := Port.linkReset_presence s.clock (s.port p)
  refine (setPort_presence hp hr).trans ?_
  rw [linkReset_writes]
  exact .of_ports rfl rfl rfl rfl rfl rfl rfl

/-- Of the ports, an entry to LOST writes its own alone, by the link reset that leaves LOST again (R34). -/
theorem enterLost_port (p q : PortIx) (s : State) :
    (enterLost p s).port q = if p = q then (s.port p).linkReset s.clock else s.port q := by
  have h := OnlyRecords.portStreamEnded p (mappedLane s p) (linkEvent .linkLost p s)
  have port : ∀ q, (portStreamEnded p (mappedLane s p) (linkEvent .linkLost p s)).port q = s.port q := fun q => by
    rw [State.port, h.ports]; rfl
  rw [enterLost, linkReset_port, port, port, h.clock]
  rfl

theorem DueFrame.enterLost (p : PortIx) (s : State) : DueFrame s (enterLost p s) :=
  (place _ _ _ _ s).trans ((onlyRecords (.portStreamEnded p (mappedLane s p) _)).trans (linkReset p (mappedLane s p) _))

theorem DueFrame.failZero (l : LaneIx) (reason : BitVec 32) (s : State) : DueFrame s (failZero l reason s) := by
  unfold Machine.failZero
  split
  · exact .refl s
  · exact .of_ports rfl rfl rfl rfl rfl rfl rfl

theorem DueFrame.enterAbsent (p : PortIx) (s : State) : DueFrame s (enterAbsent p s) := by
  have closed : ∀ t, DueFrame t (t.setPort p (t.port p).enterAbsent) := fun t => .setPort_presence rfl rfl
  have lost : DueFrame s (if (s.port p).link = .streaming then portStreamEnded p (mappedLane s p) (linkEvent .linkLost p s) else s) := by
    split
    · exact (place _ _ _ _ s).trans (onlyRecords (.portStreamEnded p (mappedLane s p) _))
    · exact .refl s
  unfold Machine.enterAbsent
  simp only
  refine lost.trans ?_
  generalize (if (s.port p).link = .streaming then portStreamEnded p (mappedLane s p) (linkEvent .linkLost p s) else s) = t
  cases mappedLane s p with
  | none => exact closed t
  | some l =>
    have buffer : DueFrame t (clearAssembler l t) := .of_ports rfl rfl rfl rfl rfl rfl rfl
    have cleared : DueFrame t ((clearAssembler l t).setPort p (t.port p).enterAbsent) := buffer.trans (closed (clearAssembler l t))
    simp only
    split
    · exact cleared.trans (failZero _ _ _)
    · exact cleared

/-! ### Presence -/

/-- A presence change that is due is taken (R26). -/
theorem DueFrame.presenceTaken {s : State} {p : PortIx} {b : Bool} (h : presenceDue s p = true) (hb : (s.port p).presence = !b) :
    DueFrame s (s.setPort p { s.port p with presence := b, presenceRun := 0 }) := by
  have hr : (s.port p).presenceRun = 20 := by simpa [presenceDue] using h
  exact .setPort (by simp [Port.levelDue, hr, hb]) (by simp)

/-- PRESENCE_ACTIVE keeps the frame, and a change still due after it is one to inactive (R26). -/
theorem presenceActiveStep_spec (p : PortIx) (s : State) : DueFrame s (presenceActiveStep p s)
    ∧ (((presenceActiveStep p s).port p).presenceRun = 20 → ((presenceActiveStep p s).port p).presence = true) := by
  unfold presenceActiveStep
  by_cases h : presenceDue s p = true ∧ (s.port p).presence = false
  · rw [if_pos h]
    have taken := DueFrame.presenceTaken (b := true) h.1 (by simpa using h.2)
    have run : ((s.setPort p { s.port p with presence := true, presenceRun := 0 }).port p).presenceRun ≠ 20 := by simp
    simp only
    split
    · have reset := DueFrame.linkReset p (mappedLane (s.setPort p { s.port p with presence := true, presenceRun := 0 }) p)
        (s.setPort p { s.port p with presence := true, presenceRun := 0 })
      exact ⟨taken.trans reset, fun hr => absurd hr (reset.runs p run)⟩
    · exact ⟨taken, fun hr => absurd hr run⟩
  · rw [if_neg h]
    exact ⟨.refl s, fun hr => by simpa [presenceDue, hr] using h⟩

/-- PRESENCE_INACTIVE keeps the frame, and takes a change that is due of a port whose debounced level is active (R26). -/
theorem presenceInactiveStep_spec (p : PortIx) (s : State) : DueFrame s (presenceInactiveStep p s)
    ∧ (((s.port p).presenceRun = 20 → (s.port p).presence = true) → ((presenceInactiveStep p s).port p).presenceRun ≠ 20) := by
  unfold presenceInactiveStep
  by_cases h : presenceDue s p = true ∧ (s.port p).presence = true
  · rw [if_pos h]
    have taken := DueFrame.presenceTaken (b := false) h.1 (by simpa using h.2)
    have run : ((s.setPort p { s.port p with presence := false, presenceRun := 0 }).port p).presenceRun ≠ 20 := by simp
    simp only
    split
    · have absent := DueFrame.enterAbsent p (s.setPort p { s.port p with presence := false, presenceRun := 0 })
      exact ⟨taken.trans absent, fun _ => absent.runs p run⟩
    · exact ⟨taken, fun _ => run⟩
  · rw [if_neg h]
    exact ⟨.refl s, fun hp hr => h ⟨by simpa [presenceDue] using hr, hp hr⟩⟩

/-- The two presence events of a port, in the order of a TICK. -/
def presenceSteps (p : PortIx) (s : State) : State := presenceInactiveStep p (presenceActiveStep p s)

theorem DueFrame.presenceSteps (p : PortIx) (s : State) : DueFrame s (presenceSteps p s) :=
  (presenceActiveStep_spec p s).1.trans (presenceInactiveStep_spec p _).1

/-- After the presence events no presence change is due (R26). -/
theorem presenceSteps_taken (s : State) (p : PortIx) : ((forPorts allPorts presenceSteps s).port p).presenceRun ≠ 20 :=
  foldl_establishes (I := fun _ => True) (Q := fun q t => (t.port q).presenceRun ≠ 20) (fun _ _ _ => trivial)
    (fun p t _ => (presenceInactiveStep_spec p _).2 (presenceActiveStep_spec p t).2)
    (fun p q t _ _ hq => (DueFrame.presenceSteps p t).runs q hq) allPorts trivial p (.inl (mem_allPorts p))

/-! ### Break ends, silence ends and hello waits -/

theorem DueFrame.breakEndStep (p : PortIx) (s : State) : DueFrame s (breakEndStep p s) := by
  unfold Machine.breakEndStep
  split
  · have h := beginNext_writes { s.port p with brk := .clear }
    exact .setPort_presence (congrArg Port.presence h :) (congrArg Port.presenceRun h :)
  · exact .refl s

/-- After the break ends no break ends now (R28). -/
theorem breakEnds_taken (s : State) (p : PortIx) : ((forPorts allPorts breakEndStep s).port p).brk ≠ .low s.clock := by
  refine forPorts_establishes (P := fun x => x.brk ≠ .low s.clock) (fun p t => (DueFrame.breakEndStep p t).clock)
    (fun p q t hpq => ?_) (fun p t ht => ?_) rfl p <;> unfold breakEndStep <;> split
  · rw [State.setPort_port, if_neg hpq]
  · rfl
  · rw [State.setPort_port, if_pos rfl, beginNext_writes]; exact BreakState.noConfusion
  · next h => rw [← ht]; exact h

theorem DueFrame.silenceEndStep (p : PortIx) (s : State) : DueFrame s (silenceEndStep p s) := by
  unfold Machine.silenceEndStep
  split
  · exact .enterLost p s
  · exact .refl s

/-- A silence end takes its port out of STREAMING by a link reset (R32, R34). -/
theorem silenceEndStep_port (p q : PortIx) (s : State) : (silenceEndStep p s).port q =
    if p = q ∧ (s.port p).link = .streaming ∧ (s.port p).silenceEnd = some s.clock then (s.port p).linkReset s.clock else s.port q := by
  unfold silenceEndStep
  by_cases h : (s.port p).link = .streaming ∧ (s.port p).silenceEnd = some s.clock
  · rw [if_pos h, enterLost_port]; simp [h]
  · rw [if_neg h, if_neg fun k => h k.2]

theorem DueFrame.helloWaitEndStep (p : PortIx) (s : State) : DueFrame s (helloWaitEndStep p s) := by
  unfold Machine.helloWaitEndStep
  split
  · exact .linkReset p _ s
  · exact .refl s

/-- The end of a hello wait begins the link anew (R31). -/
theorem helloWaitEndStep_port (p q : PortIx) (s : State) : (helloWaitEndStep p s).port q =
    if p = q ∧ (s.port p).link = .linking ∧ (s.port p).helloWaitEnd = some s.clock then (s.port p).linkReset s.clock else s.port q := by
  unfold helloWaitEndStep
  by_cases h : (s.port p).link = .linking ∧ (s.port p).helloWaitEnd = some s.clock
  · rw [if_pos h, linkReset_port]; simp [h]
  · rw [if_neg h, if_neg fun k => h k.2]

/-- No silence end of a STREAMING port is due at this tick. -/
def Port.silenceTaken (now : Time) (x : Port) : Prop := x.link = .streaming → x.silenceEnd ≠ some now

/-- No hello wait of a LINKING port ends at this tick. -/
def Port.helloTaken (now : Time) (x : Port) : Prop := x.link = .linking → x.helloWaitEnd ≠ some now

theorem Port.linkReset_silenceTaken (now : Time) (x : Port) : (x.linkReset now).silenceTaken now := fun h => by
  rw [(x.linkReset_ends now).1] at h; cases h

theorem Port.linkReset_helloTaken (now : Time) (x : Port) : (x.linkReset now).helloTaken now := fun _ => by
  rw [(x.linkReset_ends now).2.1]
  exact fun h => tadd_ne now (n := 5000) (by omega) (by omega) (Option.some.inj h)

/-- After the silence ends none is due (R32). -/
theorem silenceEnds_taken (s : State) (p : PortIx) : ((forPorts allPorts silenceEndStep s).port p).silenceTaken s.clock := by
  refine forPorts_establishes (fun p t => (DueFrame.silenceEndStep p t).clock) (fun p q t hpq => ?_) (fun p t ht => ?_) rfl p
  · rw [silenceEndStep_port, if_neg fun k => hpq k.1]
  · rw [silenceEndStep_port, ← ht]
    split
    · exact Port.linkReset_silenceTaken _ _
    · next h => exact fun hl he => h ⟨rfl, hl, he⟩

/-- After the hello waits none is due (R31). -/
theorem helloWaits_taken (s : State) (p : PortIx) : ((forPorts allPorts helloWaitEndStep s).port p).helloTaken s.clock := by
  refine forPorts_establishes (fun p t => (DueFrame.helloWaitEndStep p t).clock) (fun p q t hpq => ?_) (fun p t ht => ?_) rfl p
  · rw [helloWaitEndStep_port, if_neg fun k => hpq k.1]
  · rw [helloWaitEndStep_port, ← ht]
    split
    · exact Port.linkReset_helloTaken _ _
    · next h => exact fun hl he => h ⟨rfl, hl, he⟩

/-- What every step of a fold over ports keeps of each port, the fold keeps. -/
theorem forPorts_keeps {f : PortIx → State → State} {P : Port → Prop} {c : Time} (hclock : ∀ p t, (f p t).clock = t.clock)
    (hkeep : ∀ p q t, t.clock = c → P (t.port q) → P ((f p t).port q)) {s : State} (hc : s.clock = c) (h : ∀ q, P (s.port q))
    (ps : List PortIx) (q : PortIx) : P ((forPorts ps f s).port q) :=
  (forPorts_induct (P := fun t => t.clock = c ∧ ∀ q, P (t.port q)) ps ⟨hc, h⟩ fun p _ t ht =>
    ⟨(hclock p t).trans ht.1, fun q => hkeep p q t ht.1 (ht.2 q)⟩).2 q

/-- The silence ends keep what a link reset brings about. -/
theorem silenceEnds_keep (P : Port → Prop) {now : Time} (hreset : ∀ x : Port, P (x.linkReset now)) {s : State} (hc : s.clock = now)
    (h : ∀ q, P (s.port q)) (q : PortIx) : P ((forPorts allPorts silenceEndStep s).port q) := by
  refine forPorts_keeps (fun p t => (DueFrame.silenceEndStep p t).clock) (fun p q t ht hq => ?_) hc h allPorts q
  rw [silenceEndStep_port, ht]
  split
  · exact hreset _
  · exact hq

/-- The hello waits keep what a link reset brings about. -/
theorem helloWaits_keep (P : Port → Prop) {now : Time} (hreset : ∀ x : Port, P (x.linkReset now)) {s : State} (hc : s.clock = now)
    (h : ∀ q, P (s.port q)) (q : PortIx) : P ((forPorts allPorts helloWaitEndStep s).port q) := by
  refine forPorts_keeps (fun p t => (DueFrame.helloWaitEndStep p t).clock) (fun p q t ht hq => ?_) hc h allPorts q
  rw [helloWaitEndStep_port, ht]
  split
  · exact hreset _
  · exact hq

/-- No break, silence or hello wait of the port ends at this tick. -/
structure Port.EndsTaken (now : Time) (x : Port) : Prop where
  brk     : x.brk ≠ .low now
  silence : x.silenceTaken now
  hello   : x.helloTaken now

/-- The link events of a TICK: presence, break ends, silence ends and hello waits. -/
def takeLinks (s : State) : State :=
  forPorts allPorts helloWaitEndStep (forPorts allPorts silenceEndStep (forPorts allPorts breakEndStep (forPorts allPorts presenceSteps s)))

theorem DueFrame.takeLinks (s : State) : DueFrame s (takeLinks s) :=
  (forPorts presenceSteps allPorts s).trans ((forPorts breakEndStep allPorts _).trans
    ((forPorts silenceEndStep allPorts _).trans (forPorts helloWaitEndStep allPorts _)))

/-- After the link events no presence change is due. -/
theorem takeLinks_runs (s : State) (p : PortIx) : ((takeLinks s).port p).presenceRun ≠ 20 :=
  ((DueFrame.forPorts .breakEndStep allPorts _).trans ((DueFrame.forPorts .silenceEndStep allPorts _).trans
    (.forPorts .helloWaitEndStep allPorts _))).runs p (presenceSteps_taken s p)

/-- After the link events no end time of a link is due. -/
theorem takeLinks_ends (s : State) (p : PortIx) : ((takeLinks s).port p).EndsTaken s.clock := by
  have h1 := (DueFrame.forPorts .presenceSteps allPorts s).clock
  have h2 := (DueFrame.forPorts .breakEndStep allPorts (forPorts allPorts presenceSteps s)).clock.trans h1
  have h3 := (DueFrame.forPorts .silenceEndStep allPorts (forPorts allPorts breakEndStep (forPorts allPorts presenceSteps s))).clock.trans h2
  have reset : ∀ x : Port, (x.linkReset s.clock).brk ≠ .low s.clock := fun x => (x.linkReset_ends _).2.2
  have brk := helloWaits_keep (fun x => x.brk ≠ .low s.clock) reset h3 (silenceEnds_keep (fun x => x.brk ≠ .low s.clock) reset h2
    fun q => h1 ▸ breakEnds_taken (forPorts allPorts presenceSteps s) q) p
  have silence := helloWaits_keep (Port.silenceTaken s.clock) (Port.linkReset_silenceTaken _) h3
    (fun q => h2 ▸ silenceEnds_taken (forPorts allPorts breakEndStep (forPorts allPorts presenceSteps s)) q) p
  exact ⟨brk, silence, h3 ▸ helloWaits_taken _ p⟩

end Sys2Proof.Machine
end

section
/-! PROOFS. The timers and the deadlines of the store port that a TICK takes (R14, R76, R81, R91, R97, R124, R191, R195). -/

namespace Sys2Proof.Machine

/-! ### The pulse end and the ZERO timeouts -/

theorem recallPulseEndStep_writes (s : State) : recallPulseEndStep s = { s with driver := (recallPulseEndStep s).driver } := by
  unfold recallPulseEndStep; split <;> rfl

theorem recallPulseEndStep_taken (s : State) : (recallPulseEndStep s).driver ≠ .pulsing s.clock := by
  unfold recallPulseEndStep
  split
  · exact RecallDriver.noConfusion
  · assumption

theorem zeroTimeoutStep_writes (l : LaneIx) (s : State) :
    zeroTimeoutStep l s = { s with zeros := (zeroTimeoutStep l s).zeros, events := (zeroTimeoutStep l s).events } := by
  unfold zeroTimeoutStep
  split
  · rfl
  · split
    · unfold failZero; split <;> rfl
    · rfl

/-- A ZERO timeout ends the ZERO of its own lane alone (R76). -/
theorem zeroTimeoutStep_zero (l k : LaneIx) (s : State) : (zeroTimeoutStep l s).zero k =
    if l = k ∧ ∃ z, s.zero l = some z ∧ z.timeoutEnd = s.clock then none else s.zero k := by
  unfold zeroTimeoutStep
  cases hz : s.zero l with
  | none => simp
  | some z =>
    by_cases h : z.timeoutEnd = s.clock
    · simp only [h, if_true, failZero, hz]
      exact (State.setZero_zero s l k none).trans (by simp [h])
    · simp [h]

/-- The ZERO timeouts write the ZEROs and the events alone. -/
theorem zeroTimeouts_writes (ls : List LaneIx) (s : State) : forLanes ls zeroTimeoutStep s =
    { s with zeros := (forLanes ls zeroTimeoutStep s).zeros, events := (forLanes ls zeroTimeoutStep s).events } :=
  forLanes_induct (P := fun t => t = { s with zeros := t.zeros, events := t.events }) ls rfl fun l _ t ht =>
    (zeroTimeoutStep_writes l t).trans
      (congrArg (fun x => { x with zeros := (zeroTimeoutStep l t).zeros, events := (zeroTimeoutStep l t).events }) ht)

/-- After the ZERO timeouts no ZERO is at its timeout end (R76). -/
theorem zeroTimeouts_taken (s : State) (l : LaneIx) (z : ZeroRun) (h : (forLanes allLanes zeroTimeoutStep s).zero l = some z) :
    z.timeoutEnd ≠ s.clock := by
  refine foldl_establishes (I := fun t => t.clock = s.clock) (Q := fun l t => ∀ z, t.zero l = some z → z.timeoutEnd ≠ s.clock)
    (fun l t ht => (congrArg State.clock (zeroTimeoutStep_writes l t)).trans ht) (fun l t ht z hz => ?_)
    (fun l k t hlk _ hk z hz => hk z ?_) allLanes rfl l (.inl (mem_allLanes l)) z h
  · rw [zeroTimeoutStep_zero] at hz
    split at hz
    · cases hz
    · next hn => exact fun he => hn ⟨rfl, z, hz, he.trans ht.symm⟩
  · rwa [zeroTimeoutStep_zero, if_neg fun h => hlk h.1] at hz

/-! ### The timers of the attempt -/

/-- The attempt's timers write the sequencer, the detectors, the rings, the reservation and the events alone. -/
def WritesAttempt (s t : State) : Prop :=
  t = { s with seq := t.seq, detectors := t.detectors, rings := t.rings, reservation := t.reservation, events := t.events }

theorem WritesAttempt.trans {a b c : State} (h : WritesAttempt a b) (k : WritesAttempt b c) : WritesAttempt a c :=
  Eq.trans k (congrArg (fun x => { x with seq := c.seq, detectors := c.detectors, rings := c.rings, reservation := c.reservation,
                                          events := c.events }) h)

theorem WritesAttempt.clock {s t : State} (h : WritesAttempt s t) : t.clock = s.clock := by rw [h]

theorem WritesAttempt.changeRecord (id : Nat) (f : Record → Record) (s : State) : WritesAttempt s (changeRecord id f s) := by
  rw [WritesAttempt, changeRecord_eq]

theorem WritesAttempt.settleEndStep (s : State) : WritesAttempt s (settleEndStep s) := by
  unfold Machine.settleEndStep; split <;> rfl

/-- A watch-ended report writes the open record alone (R129, R144). -/
theorem endWatch_frame (l : LaneIx) (s : State) : WritesAttempt s (endWatch l s) ∧ VerdictFrame s (endWatch l s) := by
  have same : WritesAttempt s s ∧ VerdictFrame s s := ⟨rfl, by constructor <;> rfl⟩
  unfold endWatch reportWatchEnded
  split
  · exact same
  · split
    · exact same
    · split
      · exact ⟨.changeRecord _ _ s, .change _ _ s⟩
      · exact same

theorem endWatches_frame (ls : List LaneIx) (s : State) : WritesAttempt s (forLanes ls endWatch s) ∧ VerdictFrame s (forLanes ls endWatch s) :=
  forLanes_induct (P := fun t => WritesAttempt s t ∧ VerdictFrame s t) ls ⟨rfl, by constructor <;> rfl⟩ fun l _ t ht =>
    ⟨ht.1.trans (endWatch_frame l t).1, ht.2.trans (endWatch_frame l t).2⟩

/-- The close of the attempt at the window close keeps the settle end and leaves no window end (R81, R97). -/
theorem windowClose_spec (r : Record) (s : State) : WritesAttempt s (windowClose r s)
    ∧ (windowClose r s).seq.settleEnd = s.seq.settleEnd ∧ (windowClose r s).seq.windowEnd = none := by
  obtain ⟨writes, verdict⟩ := endWatches_frame r.lanes s
  have settle : (forLanes r.lanes endWatch s).seq.settleEnd = s.seq.settleEnd := (congrArg Sequencer.settleEnd verdict.seqRest :)
  refine ⟨?_, ?_, rfl⟩
  · exact writes.trans (.trans (b := (forLanes r.lanes endWatch s).mapDetectors r.lanes Detector.close) rfl
      (.trans (.changeRecord r.id (fun r => { r with windowClose := some s.clock, state := .decided }) _) rfl))
  · simpa [windowClose, place, State.mapRings, changeRecord_eq, State.mapDetectors] using settle

theorem lineState_congr {s t : State} (h : t.seq.history = s.seq.history) : lineState t = lineState s := by
  unfold lineState openRecord; rw [h]

/-- WINDOW_CLOSE_EXPIRY keeps the settle end, and after it no window end of a RUNNING line is due (R97). -/
theorem windowCloseStep_spec (s : State) : WritesAttempt s (windowCloseStep s)
    ∧ (windowCloseStep s).seq.settleEnd = s.seq.settleEnd
    ∧ ((windowCloseStep s).seq.windowEnd = some s.clock → lineState (windowCloseStep s) ≠ .running) := by
  unfold windowCloseStep
  split
  · rcases lineState_cases s with ⟨ho, hl⟩ | ⟨r, ho, hr⟩
    · rw [ho]; exact ⟨rfl, rfl, fun _ => by rw [hl]; exact LineState.noConfusion⟩
    · simp only [ho]
      split
      · obtain ⟨writes, settle, window⟩ := windowClose_spec r s
        exact ⟨writes, settle, fun h => by rw [window] at h; cases h⟩
      · next hn =>
        refine ⟨rfl, rfl, fun _ => ?_⟩
        rcases hr with ⟨_, hl⟩ | ⟨_, hl⟩ | ⟨hrun, _⟩
        · rw [hl]; exact LineState.noConfusion
        · rw [hl]; exact LineState.noConfusion
        · exact absurd hrun hn
  · next h => exact ⟨rfl, rfl, fun k => absurd k h⟩

/-- RECALL_SHOT_END_EXPIRY writes the recall-shot end alone (R81). -/
theorem recallShotEndStep_spec (s : State) : WritesAttempt s (recallShotEndStep s)
    ∧ (recallShotEndStep s).seq = { s.seq with recallShotEnd := (recallShotEndStep s).seq.recallShotEnd } := by
  unfold recallShotEndStep; split <;> exact ⟨rfl, rfl⟩

theorem recallShotEndStep_taken (s : State) : (recallShotEndStep s).seq.recallShotEnd ≠ some s.clock := by
  unfold recallShotEndStep
  split
  · exact (Option.some_ne_none _).symm
  · assumption

theorem heldAgeEndStep_spec (l : LaneIx) (s : State) :
    WritesAttempt s (heldAgeEndStep l s) ∧ (heldAgeEndStep l s).seq = s.seq := by
  unfold heldAgeEndStep; split <;> exact ⟨rfl, rfl⟩

theorem heldAgeEndStep_detector (l k : LaneIx) (s : State) : (heldAgeEndStep l s).detector k =
    if l = k ∧ (s.detector l).heldAgeEnd = some s.clock then { s.detector l with longHeld := true } else s.detector k := by
  unfold heldAgeEndStep
  by_cases h : (s.detector l).heldAgeEnd = some s.clock
  · rw [if_pos h, State.setDetector_detector]; simp [h]
  · rw [if_neg h, if_neg fun k => h k.2]

theorem heldAges_spec (ls : List LaneIx) (s : State) :
    WritesAttempt s (forLanes ls heldAgeEndStep s) ∧ (forLanes ls heldAgeEndStep s).seq = s.seq :=
  forLanes_induct (P := fun t => WritesAttempt s t ∧ t.seq = s.seq) ls ⟨rfl, rfl⟩ fun l _ t ht =>
    ⟨ht.1.trans (heldAgeEndStep_spec l t).1, (heldAgeEndStep_spec l t).2.trans ht.2⟩

/-- After the held ages every detector at its held-age end is long held (R124). -/
theorem heldAges_taken (s : State) (l : LaneIx) (h : ((forLanes allLanes heldAgeEndStep s).detector l).heldAgeEnd = some s.clock) :
    ((forLanes allLanes heldAgeEndStep s).detector l).longHeld = true := by
  refine foldl_establishes (I := fun t => t.clock = s.clock)
    (Q := fun l t => (t.detector l).heldAgeEnd = some s.clock → (t.detector l).longHeld = true)
    (fun l t ht => (heldAgeEndStep_spec l t).1.clock.trans ht) (fun l t ht hd => ?_)
    (fun l k t hlk _ hk hd => ?_) allLanes rfl l (.inl (mem_allLanes l)) h
  · rw [heldAgeEndStep_detector] at hd ⊢
    split
    · rfl
    · next hn => rw [if_neg hn] at hd; exact absurd ⟨rfl, hd.trans (congrArg some ht.symm)⟩ hn
  · rw [heldAgeEndStep_detector, if_neg fun h => hlk h.1] at hd ⊢
    exact hk hd

/-- The timers of the attempt and of the held crossings, in the order of a TICK. -/
def takeAttempt (s : State) : State :=
  forLanes allLanes heldAgeEndStep (recallShotEndStep (windowCloseStep (settleEndStep s)))

/-- No timer of the attempt is due at this tick (R81, R91, R97, R124). -/
structure AttemptTaken (now : Time) (t : State) : Prop where
  settle     : t.seq.settleEnd ≠ some now
  window     : t.seq.windowEnd = some now → lineState t ≠ .running
  recallShot : t.seq.recallShotEnd ≠ some now
  heldAge    : ∀ l, (t.detector l).heldAgeEnd = some now → (t.detector l).longHeld = true

theorem settleEndStep_taken (s : State) : (settleEndStep s).seq.settleEnd ≠ some s.clock := by
  unfold settleEndStep
  split
  · exact (Option.some_ne_none _).symm
  · assumption

theorem takeAttempt_spec (s : State) : WritesAttempt s (takeAttempt s) ∧ AttemptTaken s.clock (takeAttempt s) := by
  unfold takeAttempt
  have settle := WritesAttempt.settleEndStep s
  have settleTaken := settleEndStep_taken s
  generalize settleEndStep s = a at settle settleTaken ⊢
  obtain ⟨close, closeSettle, closeWindow⟩ := windowCloseStep_spec a
  have closed := settle.trans close
  rw [settle.clock] at closeWindow
  rw [← closeSettle] at settleTaken
  generalize windowCloseStep a = b at closed closeWindow settleTaken ⊢
  obtain ⟨shot, shotSeq⟩ := recallShotEndStep_spec b
  have shotTaken := recallShotEndStep_taken b
  have shotDone := closed.trans shot
  rw [closed.clock] at shotTaken
  rw [← lineState_congr (congrArg Sequencer.history shotSeq :)] at closeWindow
  generalize recallShotEndStep b = c at shotDone shotSeq shotTaken closeWindow ⊢
  obtain ⟨held, seq⟩ := heldAges_spec allLanes c
  have heldTaken := heldAges_taken c
  rw [shotDone.clock] at heldTaken
  rw [← lineState_congr (congrArg Sequencer.history seq)] at closeWindow
  generalize forLanes allLanes heldAgeEndStep c = d at held heldTaken closeWindow seq ⊢
  refine ⟨shotDone.trans held, ?_, ?_, ?_, heldTaken⟩
  · rw [seq, shotSeq]; exact settleTaken
  · rw [seq, shotSeq]; exact closeWindow
  · rw [seq]; exact shotTaken

/-- The timers that a TICK takes: the recall pulse, the ZERO timeouts, and those of the attempt. -/
def takeTimers (s : State) : State := takeAttempt (forLanes allLanes zeroTimeoutStep (recallPulseEndStep s))

/-- What the timers leave: neither port nor anything else of the frame written, and no timer due at this tick. -/
structure TimersTaken (now : Time) (t : State) : Prop where
  pulse   : t.driver ≠ .pulsing now
  zeros   : ∀ l z, t.zero l = some z → z.timeoutEnd ≠ now
  attempt : AttemptTaken now t

theorem takeTimers_spec (s : State) :
    DueFrame s (takeTimers s) ∧ (takeTimers s).ports = s.ports ∧ TimersTaken s.clock (takeTimers s) := by
  unfold takeTimers
  have pulse := recallPulseEndStep_writes s
  have pulseTaken := recallPulseEndStep_taken s
  generalize recallPulseEndStep s = a at pulse pulseTaken ⊢
  have zeros := zeroTimeouts_writes allLanes a
  have zerosTaken := zeroTimeouts_taken a
  generalize forLanes allLanes zeroTimeoutStep a = b at zeros zerosTaken ⊢
  have clock : b.clock = s.clock := by rw [zeros, pulse]
  obtain ⟨attempt, taken⟩ := takeAttempt_spec b
  generalize takeAttempt b = c at attempt taken ⊢
  have done : c = { b with seq := c.seq, detectors := c.detectors, rings := c.rings, reservation := c.reservation, events := c.events } :=
    attempt
  have ports : c.ports = s.ports := by rw [done, zeros, pulse]
  have frame : DueFrame s c := by refine .of_ports ?_ ?_ ?_ ?_ ?_ ?_ ports <;> rw [done, zeros, pulse]
  refine ⟨frame, ports, ?_, fun l z hz => ?_, clock ▸ taken⟩
  · have driver : c.driver = a.driver := by rw [done, zeros]
    rw [driver]; exact pulseTaken
  · have ha : a.clock = s.clock := by rw [pulse]
    have hb : c.zero l = b.zero l := by rw [State.zero, done]; rfl
    exact ha ▸ zerosTaken l z (hb ▸ hz)

/-! ### The store port -/

@[simp] theorem offerFrame_presence (f : OutFrame) (x : Port) : (offerFrame f x).presence = x.presence := by rw [offerFrame_writes]
@[simp] theorem offerFrame_presenceRun (f : OutFrame) (x : Port) : (offerFrame f x).presenceRun = x.presenceRun := by rw [offerFrame_writes]
@[simp] theorem offerFrame_brk (f : OutFrame) (x : Port) : (offerFrame f x).brk = x.brk := by rw [offerFrame_writes]

theorem completeHello_writes (p : PortIx) (s : State) :
    completeHello p s = { s with ports := (completeHello p s).ports, events := (completeHello p s).events } := by
  unfold completeHello; split <;> rfl

/-- A pending hello completed at the end of the load brings its port into STREAMING, with its silence end 200 ticks on, and keeps its
presence and its break (R30, R192). -/
theorem completeHello_port (p : PortIx) (s : State) : (completeHello p s).port p = s.port p
    ∨ ((completeHello p s).port p).presence = (s.port p).presence ∧ ((completeHello p s).port p).presenceRun = (s.port p).presenceRun
      ∧ ((completeHello p s).port p).brk = (s.port p).brk ∧ ((completeHello p s).port p).link = .streaming
      ∧ ((completeHello p s).port p).silenceEnd = some (tadd s.clock 200) := by
  unfold completeHello
  split
  · exact .inr (by simp [enterStreaming, linkEvent, place, State.port, State.setPort])
  · exact .inl rfl

theorem completeHello_otherPort {p q : PortIx} (h : p ≠ q) (s : State) : (completeHello p s).port q = s.port q := by
  have hv : p.val ≠ q.val := fun e => h (Fin.ext e)
  unfold completeHello
  split
  · simp [enterStreaming, linkEvent, place, State.port, State.setPort, hv]
  · rfl

/-- A pending hello completed brings no end time of a port to be due. -/
theorem completeHello_endsTaken {p q : PortIx} {s : State} (h : (s.port q).EndsTaken s.clock) :
    ((completeHello p s).port q).EndsTaken s.clock := by
  by_cases hpq : p = q
  · subst hpq
    rcases completeHello_port p s with he | ⟨_, _, brk, link, silence⟩
    · rw [he]; exact h
    · refine ⟨brk ▸ h.brk, fun _ => ?_, fun hl => ?_⟩
      · rw [silence]; exact fun e => tadd_ne s.clock (n := 200) (by omega) (by omega) (Option.some.inj e)
      · rw [link] at hl; cases hl
  · rw [completeHello_otherPort hpq]; exact h

theorem DueFrame.completeHello (p : PortIx) (s : State) : DueFrame s (completeHello p s) := by
  have writes := completeHello_writes p s
  have same : ∀ q, ((Machine.completeHello p s).port q).presence = (s.port q).presence
      ∧ ((Machine.completeHello p s).port q).presenceRun = (s.port q).presenceRun := by
    intro q
    by_cases hpq : p = q
    · subst hpq
      rcases completeHello_port p s with he | ⟨hp, hr, _⟩
      · rw [he]; exact ⟨rfl, rfl⟩
      · exact ⟨hp, hr⟩
    · rw [completeHello_otherPort hpq]; exact ⟨rfl, rfl⟩
  refine ⟨?_, ?_, ?_, ?_, ?_, ?_, fun q => ?_, fun q => ?_⟩
  case refine_7 => rw [Port.levelDue, (same q).1, (same q).2]; rfl
  case refine_8 => rw [(same q).2]; exact id
  all_goals rw [writes]

/-- The pending hellos of the load's end write the ports and the events alone, and no link end time comes to be due. -/
theorem completeHellos_spec (s : State) : DueFrame s (forPorts allPorts completeHello s)
    ∧ forPorts allPorts completeHello s = { s with ports := (forPorts allPorts completeHello s).ports,
                                                   events := (forPorts allPorts completeHello s).events }
    ∧ ((∀ p, (s.port p).EndsTaken s.clock) → ∀ p, ((forPorts allPorts completeHello s).port p).EndsTaken s.clock) :=
  ⟨.forPorts .completeHello allPorts s,
    forPorts_induct (P := fun t => t = { s with ports := t.ports, events := t.events }) allPorts rfl fun p _ t ht =>
      (completeHello_writes p t).trans
        (congrArg (fun x => { x with ports := (completeHello p t).ports, events := (completeHello p t).events }) ht),
    fun h => forPorts_keeps (P := Port.EndsTaken s.clock) (fun p t => (DueFrame.completeHello p t).clock)
      (fun p q t ht hq => by rw [← ht] at hq ⊢; exact completeHello_endsTaken hq) rfl h allPorts⟩

/-- The deadline of the load's address transaction: the load ends without an image, and no link end time comes to be due (R191). -/
theorem loadDeadlineStep_spec (s : State) : DueFrame s (loadDeadlineStep s)
    ∧ loadDeadlineStep s = { s with ports := (loadDeadlineStep s).ports, events := (loadDeadlineStep s).events,
                                    store := (loadDeadlineStep s).store }
    ∧ ((loadDeadlineStep s).store.job = .addressing → (loadDeadlineStep s).store.deadline ≠ some s.clock)
    ∧ ((∀ p, (s.port p).EndsTaken s.clock) → ∀ p, ((loadDeadlineStep s).port p).EndsTaken s.clock) := by
  unfold loadDeadlineStep
  split
  · obtain ⟨frame, writes, ends⟩ := completeHellos_spec
      { s with events := attnModeChange s.line.attnMode s.line.attnMode s.events,
               store := { state := .defaultsAbsent, markerOffset := s.store.markerOffset, job := .idle, deadline := none, busUsed := false } }
    unfold endLoad loadTables
    simp only
    generalize forPorts allPorts completeHello _ = t at frame writes ends ⊢
    have store := congrArg State.store writes
    refine ⟨.trans ?_ frame, ?_, fun h => ?_, ends⟩
    · exact .of_ports rfl rfl rfl rfl rfl rfl rfl
    · rw [writes]
    · rw [store] at h; cases h
  · next h => exact ⟨.refl s, rfl, fun hj hd => h ⟨hj, hd⟩, id⟩

/-- The deadline of the write in hand: the save fails (R195). -/
theorem saveDeadlineStep_spec (s : State) :
    saveDeadlineStep s = { s with events := (saveDeadlineStep s).events, store := (saveDeadlineStep s).store }
    ∧ ((s.store.job = .addressing → s.store.deadline ≠ some s.clock) →
        (saveDeadlineStep s).store.job = .addressing → (saveDeadlineStep s).store.deadline ≠ some s.clock)
    ∧ ∀ run, (saveDeadlineStep s).store.job = .saving run → (saveDeadlineStep s).store.deadline ≠ some s.clock := by
  unfold saveDeadlineStep
  split
  · split
    · exact ⟨rfl, fun _ h => (by cases h), fun _ h => (by cases h)⟩
    · next h => exact ⟨rfl, id, fun _ _ => h⟩
  · next h => exact ⟨rfl, id, fun run hj => absurd hj (h run)⟩

/-- The deadlines of the store port, in the order of a TICK. -/
def takeStore (s : State) : State := saveDeadlineStep (loadDeadlineStep s)

/-- No deadline of the store port is due at this tick (R191, R195). -/
structure StoreTaken (now : Time) (t : State) : Prop where
  load : t.store.job = .addressing → t.store.deadline ≠ some now
  save : ∀ run, t.store.job = .saving run → t.store.deadline ≠ some now

theorem takeStore_spec (s : State) : DueFrame s (takeStore s) ∧ StoreTaken s.clock (takeStore s)
    ∧ takeStore s = { s with ports := (takeStore s).ports, events := (takeStore s).events, store := (takeStore s).store }
    ∧ ((∀ p, (s.port p).EndsTaken s.clock) → ∀ p, ((takeStore s).port p).EndsTaken s.clock) := by
  unfold takeStore
  obtain ⟨frame, writes, load, ends⟩ := loadDeadlineStep_spec s
  generalize loadDeadlineStep s = a at frame writes load ends ⊢
  obtain ⟨saveWrites, saveLoad, save⟩ := saveDeadlineStep_spec a
  rw [frame.clock] at saveLoad save
  generalize saveDeadlineStep a = b at saveWrites saveLoad save ⊢
  have ports : b.ports = a.ports := by rw [saveWrites]
  have saveFrame : DueFrame a b := by refine .of_ports ?_ ?_ ?_ ?_ ?_ ?_ ports <;> rw [saveWrites]
  refine ⟨frame.trans saveFrame, ⟨saveLoad load, save⟩, ?_, fun h p => ?_⟩
  · rw [saveWrites]
    exact congrArg (fun x => { x with events := b.events, store := b.store }) writes
  · rw [State.port, ports]; exact ends h p

end Sys2Proof.Machine
end

section
/-! PROOFS. What is still due at a tick is taken before the clock advances (R1, R3 to R8, R26, R178, R196, entry 4). -/

namespace Sys2Proof.Machine

/-! ### The pistol's events -/

theorem pistolEdgeStep_notDue {s : State} (h : s.pistol.unit = .quiet → s.pistol.prev = some false → s.pistol.sample ≠ some true) :
    pistolEdgeStep s = s := if_neg fun ⟨hu, hp, hs⟩ => h hu hp hs

theorem shotAcceptedStep_notDue {s : State} (h : ∀ te, s.pistol.unit = .qualifying te s.clock → s.pistol.sample ≠ some true) :
    shotAcceptedStep s = s := by
  unfold shotAcceptedStep
  split
  · next te qe hu => exact if_neg fun ⟨hq, hs⟩ => h te (hq ▸ hu) hs
  · rfl

theorem glitchStep_notDue {s : State} (h : ∀ te qe, s.pistol.unit = .qualifying te qe → s.pistol.sample ≠ some false) :
    glitchStep s = s := by
  unfold glitchStep
  split
  · next te qe hu => exact if_neg (h te qe hu)
  · rfl

theorem pistolHoldEndStep_notDue {s : State} (h : s.pistol.unit = .held → s.pistol.quietRun ≠ 500) : pistolHoldEndStep s = s :=
  if_neg fun ⟨hu, hq⟩ => h hu hq

/-- The pistol's events, in the order of a TICK. -/
def takePistol (s : State) : State := pistolHoldEndStep (glitchStep (shotAcceptedStep (pistolEdgeStep s)))

theorem PistolFrame.takePistol (s : State) : PistolFrame s (takePistol s) :=
  (pistolEdgeStep s).trans ((shotAcceptedStep _).trans ((glitchStep _).trans (pistolHoldEndStep _)))

/-- An edge that is due has started qualification (R5). -/
theorem takePistol_edge {s : State} (hu : s.pistol.unit = .quiet) (hp : s.pistol.prev = some false) (hs : s.pistol.sample = some true) :
    (takePistol s).pistol.unit = .qualifying s.clock (tadd s.clock s.line.qualify) := by
  have edge : (pistolEdgeStep s).pistol =
      { s.pistol with unit := .qualifying s.clock (tadd s.clock s.line.qualify), prev := some true, sample := none } := by
    rw [pistolEdgeStep_due hu hp hs]; rfl
  unfold takePistol
  rw [shotAcceptedStep_notDue (by simp [edge]), glitchStep_notDue (by simp [edge]), pistolHoldEndStep_notDue (by simp [edge]), edge]

/-- A shot that is due has been accepted (R6). -/
theorem takePistol_shot {s : State} {te : Time} (hu : s.pistol.unit = .qualifying te s.clock) (hs : s.pistol.sample = some true) :
    (takePistol s).pistol.unit = .held := by
  have shot : (shotAcceptedStep s).pistol = s.pistolHeld.pistol := by
    rw [shotAcceptedStep_due hu hs rfl]; exact (DueFrame.shotMeaning te s.pistolHeld).pistol
  unfold takePistol
  rw [pistolEdgeStep_notDue (by simp [hu]), glitchStep_notDue (by simp [shot, State.pistolHeld]),
    pistolHoldEndStep_notDue (by simp [shot, State.pistolHeld]), shot]
  rfl

/-- A glitch that is due has ended the qualification (R7). -/
theorem takePistol_glitch {s : State} {te qe : Time} (hu : s.pistol.unit = .qualifying te qe) (hs : s.pistol.sample = some false) :
    (takePistol s).pistol.unit = .quiet := by
  have glitch : (glitchStep s).pistol.unit = .quiet := by rw [glitchStep_due hu hs]; rfl
  unfold takePistol
  rw [pistolEdgeStep_notDue (by simp [hu]), shotAcceptedStep_notDue (by simp [hs]), pistolHoldEndStep_notDue (by simp [glitch]), glitch]

/-- A hold whose quiet run has reached 500 is over (R8). -/
theorem takePistol_hold {s : State} (hu : s.pistol.unit = .held) (hq : s.pistol.quietRun = 500) :
    (takePistol s).pistol.unit = .quiet := by
  unfold takePistol
  rw [pistolEdgeStep_notDue (by simp [hu]), shotAcceptedStep_notDue (by simp [hu]), glitchStep_notDue (by simp [hu]),
    pistolHoldEndStep_due hu hq]

/-! ### Everything due but the reply -/

/-- What a TICK takes before the reply at its 2 ms. -/
def takeEvents (s : State) : State := takeStore (takeTimers (takeLinks (takePistol s)))

/-- The reply comes last of what a TICK takes (entry 4). -/
theorem takeDue_eq (s : State) : takeDue s = replyAbandonedStep (takeEvents s) := rfl

/-- What is due, the reply apart, is taken, and the frame is kept. -/
theorem takeEvents_spec (s : State) : PistolFrame s (takeEvents s) ∧ (takeEvents s).pistol = (takePistol s).pistol
    ∧ (∀ p, ((takeEvents s).port p).presenceRun ≠ 20) ∧ (∀ p, ((takeEvents s).port p).EndsTaken s.clock)
    ∧ TimersTaken s.clock (takeEvents s) ∧ StoreTaken s.clock (takeEvents s) := by
  unfold takeEvents
  have pistol := PistolFrame.takePistol s
  generalize takePistol s = a at pistol ⊢
  have links := DueFrame.takeLinks a
  have runs := takeLinks_runs a
  have ends := takeLinks_ends a
  rw [pistol.clock] at ends
  have linked := pistol.trans links.pistolFrame
  generalize takeLinks a = b at links runs ends linked ⊢
  obtain ⟨timers, ports, timersTaken⟩ := takeTimers_spec b
  rw [linked.clock] at timersTaken
  have timed := linked.trans timers.pistolFrame
  have port : ∀ p, (takeTimers b).port p = b.port p := fun p => by rw [State.port, ports]; rfl
  simp only [← port] at runs ends
  have pistolTimed := timers.pistol.trans links.pistol
  generalize takeTimers b = c at timersTaken timed runs ends pistolTimed ⊢
  obtain ⟨store, storeTaken, writes, keeps⟩ := takeStore_spec c
  rw [timed.clock] at storeTaken keeps
  generalize takeStore c = d at store storeTaken writes keeps ⊢
  refine ⟨timed.trans store.pistolFrame, store.pistol.trans pistolTimed, fun p => store.runs p (runs p), keeps ends, ?_, storeTaken⟩
  have driver : d.driver = c.driver := by rw [writes]
  have zeros : d.zeros = c.zeros := by rw [writes]
  have seq : d.seq = c.seq := by rw [writes]
  have detectors : d.detectors = c.detectors := by rw [writes]
  obtain ⟨pulse, zero, settle, window, recallShot, heldAge⟩ := timersTaken
  refine ⟨driver ▸ pulse, fun l z hz => zero l z ?_, seq ▸ settle, ?_, seq ▸ recallShot, fun l => ?_⟩
  · rw [State.zero, ← zeros]; exact hz
  · rw [lineState_congr (congrArg Sequencer.history seq), seq]; exact window
  · rw [State.detector, detectors]; exact heldAge l

/-! ### The reply at its 2 ms -/

/-- A reply that has not begun at its 2 ms is abandoned, and leaves the transmitter IDLE (R178). -/
theorem replyAbandonedStep_due {s : State} {rep : Reply} (h : s.host.tx = .waiting rep s.clock) (hr : s.host.restartPending = false) :
    replyAbandonedStep s = { s with host := { s.host with tx := .idle } } := by
  simp [replyAbandonedStep, replyOver, h, hr]

/-- The abandoned reply of a RESTART brings the reset (R178, R196). -/
theorem replyAbandonedStep_restart {s : State} {rep : Reply} (h : s.host.tx = .waiting rep s.clock) (hr : s.host.restartPending = true) :
    replyAbandonedStep s = doReset s := by
  simp [replyAbandonedStep, replyOver, doReset, h, hr]

theorem replyAbandonedStep_notDue {s : State} (h : ∀ rep, s.host.tx ≠ .waiting rep s.clock) : replyAbandonedStep s = s := by
  unfold replyAbandonedStep
  split
  · next rep limit htx => exact if_neg fun hl : limit = s.clock => h rep (hl ▸ htx)
  · rfl

/-- The reset of a RESTART comes last of what a TICK takes (R178, R196). -/
theorem takeDue_restart {s : State} {rep : Reply} (h : s.host.tx = .waiting rep s.clock) (hr : s.host.restartPending = true) :
    takeDue s = doReset (takeEvents s) := by
  rw [takeDue_eq]
  have frame := (takeEvents_spec s).1
  generalize takeEvents s = v at frame ⊢
  exact replyAbandonedStep_restart (rep := rep) (by rw [frame.host, frame.clock]; exact h) (by rw [frame.host]; exact hr)

/-- With no reset to come, what a TICK takes last leaves no reply at its 2 ms, and a reply that stood there leaves the transmitter IDLE (R178). -/
theorem takeDue_noReset {s : State} (h : s.host.restartPending = false ∨ ∀ rep, s.host.tx ≠ .waiting rep s.clock) :
    ∃ tx, takeDue s = { takeEvents s with host := { s.host with tx := tx } } ∧ (∀ rep, tx ≠ .waiting rep s.clock)
      ∧ ((∃ rep, s.host.tx = .waiting rep s.clock) → tx = .idle) := by
  rw [takeDue_eq]
  have frame := (takeEvents_spec s).1
  have host : (takeEvents s).host = s.host := frame.host
  have clock : (takeEvents s).clock = s.clock := frame.clock
  generalize takeEvents s = v at host clock ⊢
  by_cases hw : ∃ rep, s.host.tx = .waiting rep s.clock
  · obtain ⟨rep, htx⟩ := hw
    have hr := h.resolve_right fun hn => hn rep htx
    rw [replyAbandonedStep_due (rep := rep) (by rw [host, clock]; exact htx) (by rw [host]; exact hr), host]
    exact ⟨.idle, rfl, nofun, fun _ => rfl⟩
  · have hn : ∀ rep, s.host.tx ≠ .waiting rep s.clock := fun rep e => hw ⟨rep, e⟩
    rw [replyAbandonedStep_notDue (by rw [host, clock]; exact hn)]
    exact ⟨s.host.tx, by rw [← host], hn, fun hx => absurd hx hw⟩

/-- What was due at the tick is no longer due after a TICK has taken it, no reset coming. -/
theorem takeDue_dueTaken {s : State} (h : s.host.restartPending = false ∨ ∀ rep, s.host.tx ≠ .waiting rep s.clock) :
    DueTaken s (takeDue s) := by
  obtain ⟨tx, htake, htx, _⟩ := takeDue_noReset h
  rw [htake]
  obtain ⟨frame, pistol, runs, ends, timers, store⟩ := takeEvents_spec s
  have edge := @takePistol_edge s
  have shot := @takePistol_shot s
  have glitch := @takePistol_glitch s
  have hold := @takePistol_hold s
  rw [← pistol] at edge shot glitch hold
  have level : ∀ p, ((takeEvents s).port p).levelDue = (s.port p).levelDue := frame.levelDue
  generalize takeEvents s = v at *
  have presence : ∀ p, (s.port p).presenceRun = 20 → (v.port p).presence = !(s.port p).presence := fun p hp => by
    simpa [Port.levelDue, hp, runs p] using level p
  exact
    { edge := edge, shot := @shot, glitch := @glitch, hold := hold, presence := presence
      breaks := fun p => (ends p).brk, silence := fun p => (ends p).silence, helloWait := fun p => (ends p).hello
      pulse := timers.pulse, zeros := timers.zeros
      settle := timers.attempt.settle, window := timers.attempt.window, recallShot := timers.attempt.recallShot
      heldAge := timers.attempt.heldAge, load := store.load, save := store.save, reply := htx }

end Sys2Proof.Machine
end

section
/-! PROOFS. What a TICK takes is taken as its commands take it, one after another (entry 4). -/

namespace Sys2Proof.Machine

/-- On a running part these commands, one after another, do what `f` does, and leave the part running. -/
def Performs (cs : List Instr) (f : State → State) : Prop := ∀ s, s.resetHeld = false → Runs cs s (f s) ∧ (f s).resetHeld = false

/-- A command whose meaning on a running part is `f`. -/
theorem Performs.command {c : Instr} {f : State → State} (hc : ∀ s, exec c s = live f s)
    (hf : ∀ s, s.resetHeld = false → (f s).resetHeld = false) : Performs [c] f :=
  fun s h => ⟨⟨f s, (hc s).trans (live_running f h), rfl⟩, hf s h⟩

theorem Runs.append {cs ds : List Instr} {s t u : State} (h : Runs cs s t) (k : Runs ds t u) : Runs (cs ++ ds) s u := by
  induction cs generalizing s with
  | nil => exact (h : t = s) ▸ k
  | cons c cs ih =>
    obtain ⟨v, hv, hr⟩ := h
    exact ⟨v, hv, ih hr⟩

theorem Performs.append {cs ds : List Instr} {f g : State → State} (h : Performs cs f) (k : Performs ds g) :
    Performs (cs ++ ds) (fun s => g (f s)) := fun s hs =>
  have ⟨first, held⟩ := h s hs
  have ⟨second, held'⟩ := k (f s) held
  ⟨first.append second, held'⟩

/-- The commands of each index in turn do what the fold does. -/
theorem Performs.flatMap {α : Type} {cs : α → List Instr} {f : α → State → State} (h : ∀ k, Performs (cs k) (f k)) (ks : List α) :
    Performs (ks.flatMap cs) (fun s => ks.foldl (fun t k => f k t) s) := by
  induction ks with
  | nil => exact fun s hs => ⟨rfl, hs⟩
  | cons k ks ih =>
    rw [List.flatMap_cons]
    exact (h k).append ih

theorem Performs.forPorts {c : PortIx → Instr} {f : PortIx → State → State} (h : ∀ p, Performs [c p] (f p)) (ps : List PortIx) :
    Performs (ps.map c) (forPorts ps f) := by
  rw [List.map_eq_flatMap]
  exact .flatMap h ps

theorem Performs.forLanes {c : LaneIx → Instr} {f : LaneIx → State → State} (h : ∀ l, Performs [c l] (f l)) (ls : List LaneIx) :
    Performs (ls.map c) (forLanes ls f) := by
  rw [List.map_eq_flatMap]
  exact .flatMap h ls

/-- A command whose meaning keeps the frame of a due event. -/
theorem Performs.due {c : Instr} {f : State → State} (hc : ∀ s, exec c s = live f s) (hf : ∀ s, PistolFrame s (f s)) : Performs [c] f :=
  .command hc fun s hs => (hf s).resetHeld.trans hs

theorem Performs.takePistol : Performs [.pistolEdge, .shotAccepted, .glitch, .pistolHoldEnd] takePistol := by
  have h := (due (c := .pistolEdge) (fun _ => rfl) .pistolEdgeStep).append ((due (c := .shotAccepted) (fun _ => rfl) .shotAcceptedStep).append
    ((due (c := .glitch) (fun _ => rfl) .glitchStep).append (due (c := .pistolHoldEnd) (fun _ => rfl) .pistolHoldEndStep)))
  exact h

theorem Performs.presenceSteps (p : PortIx) : Performs [.presenceActive p, .presenceInactive p] (presenceSteps p) := by
  have active : Performs [.presenceActive p] (presenceActiveStep p) := due (fun _ => rfl) fun s => (presenceActiveStep_spec p s).1.pistolFrame
  have inactive : Performs [.presenceInactive p] (presenceInactiveStep p) :=
    due (fun _ => rfl) fun s => (presenceInactiveStep_spec p s).1.pistolFrame
  have h := active.append inactive
  exact h

theorem Performs.presences : Performs (allPorts.flatMap (fun p => [.presenceActive p, .presenceInactive p]))
    (Machine.forPorts allPorts Machine.presenceSteps) := flatMap presenceSteps allPorts

theorem Performs.breakEnds : Performs (allPorts.map .breakEnd) (Machine.forPorts allPorts breakEndStep) :=
  forPorts (fun p => due (f := breakEndStep p) (fun _ => rfl) fun s => (DueFrame.breakEndStep p s).pistolFrame) allPorts

theorem Performs.silenceEnds : Performs (allPorts.map .silenceEndExpiry) (Machine.forPorts allPorts silenceEndStep) :=
  forPorts (fun p => due (f := silenceEndStep p) (fun _ => rfl) fun s => (DueFrame.silenceEndStep p s).pistolFrame) allPorts

theorem Performs.helloWaits : Performs (allPorts.map .helloWaitEndExpiry) (Machine.forPorts allPorts helloWaitEndStep) :=
  forPorts (fun p => due (f := helloWaitEndStep p) (fun _ => rfl) fun s => (DueFrame.helloWaitEndStep p s).pistolFrame) allPorts

/-- A command whose meaning writes the attempt alone. -/
theorem Performs.attempt {c : Instr} {f : State → State} (hc : ∀ s, exec c s = live f s) (hf : ∀ s, WritesAttempt s (f s)) :
    Performs [c] f := .command hc fun s hs => by rw [hf s]; exact hs

theorem Performs.heldAges : Performs (allLanes.map .heldAgeEndExpiry) (Machine.forLanes allLanes heldAgeEndStep) :=
  forLanes (fun l => attempt (f := heldAgeEndStep l) (fun _ => rfl) fun s => (heldAgeEndStep_spec l s).1) allLanes

theorem Performs.zeroTimeouts : Performs (allLanes.map .zeroTimeout) (Machine.forLanes allLanes zeroTimeoutStep) :=
  forLanes (fun l => command (f := zeroTimeoutStep l) (fun _ => rfl) fun s hs => by rw [zeroTimeoutStep_writes]; exact hs) allLanes

theorem replyAbandonedStep_resetHeld {s : State} (h : s.resetHeld = false) : (replyAbandonedStep s).resetHeld = false := by
  by_cases hw : ∃ rep, s.host.tx = .waiting rep s.clock
  · obtain ⟨rep, htx⟩ := hw
    cases hr : s.host.restartPending with
    | true => rw [replyAbandonedStep_restart htx hr]; rfl
    | false => rw [replyAbandonedStep_due htx hr]; exact h
  · rw [replyAbandonedStep_notDue fun rep e => hw ⟨rep, e⟩]; exact h

/-- What a TICK takes is what its commands take, in their order (entry 4). -/
theorem Performs.takeDue : Performs dueCommands takeDue := by
  have pulse : Performs [.recallPulseEnd] recallPulseEndStep :=
    command (fun _ => rfl) fun s hs => by rw [recallPulseEndStep_writes]; exact hs
  have settle : Performs [.settleEndExpiry] settleEndStep := attempt (fun _ => rfl) .settleEndStep
  have window : Performs [.windowCloseExpiry] windowCloseStep := attempt (fun _ => rfl) fun s => (windowCloseStep_spec s).1
  have shot : Performs [.recallShotEndExpiry] recallShotEndStep := attempt (fun _ => rfl) fun s => (recallShotEndStep_spec s).1
  have load : Performs [.loadAcknowledgeDeadline] loadDeadlineStep := due (fun _ => rfl) fun s => (loadDeadlineStep_spec s).1.pistolFrame
  have save : Performs [.saveAcknowledgeDeadline] saveDeadlineStep :=
    command (fun _ => rfl) fun s hs => by rw [(saveDeadlineStep_spec s).1]; exact hs
  have reply : Performs [.replyAbandoned2ms] replyAbandonedStep := command (fun _ => rfl) fun _ hs => replyAbandonedStep_resetHeld hs
  have links := ((presences.append breakEnds).append silenceEnds).append helloWaits
  have timers := ((((pulse.append zeroTimeouts).append settle).append window).append shot).append heldAges
  have h := ((((takePistol.append links).append timers).append load).append save).append reply
  simp only [List.append_assoc, List.cons_append, List.nil_append] at h
  simp only [dueCommands, List.append_assoc, List.cons_append, List.nil_append]
  exact h

end Sys2Proof.Machine
end

section
/-! PROOFS. The tick itself, and the first tick after a reset (R1, R4, R17, R26, R67, R197). -/

namespace Sys2Proof.Machine

/-! ### The next tick -/

/-- A sample changes the pistol unit's state at no tick: its command does (R4, entry 5). -/
theorem Pistol.take_unit (now : Time) (active : Bool) (x : Pistol) : (x.take now active).unit = x.unit := by
  unfold Pistol.take
  split
  · split <;> rfl
  · split <;> rfl
  · rfl

/-- The reading of a presence line counts the readings that differ from the debounced level, up to 20 (R26). -/
theorem presenceReading_eq (active : Bool) (x : Port) :
    presenceReading active x = { x with presenceRun := if active = x.presence then 0 else min (x.presenceRun + 1) 20 } := by
  unfold presenceReading; split <;> rfl

/-- A tick that is not the first, in closed form (R1, R4, R26, R67). -/
theorem nextTick_started (pins : Pins) (upsets : List (LaneIx × Nat)) {s : State} (h : s.started = true) :
    nextTick pins upsets s =
      { s with clock := s.clock + 1, pins := pins, pistol := s.pistol.take (s.clock + 1) pins.pistol,
               rings := (applyUpsets upsets (advance pins s)).rings,
               ports := Vector.ofFn fun p =>
                 { s.ports[p] with presenceRun := if pins.presence.getLsbD p.val = (s.ports[p]).presence then 0
                                                  else min ((s.ports[p]).presenceRun + 1) 20 },
               events := { s.events with pulseThisTick := false }, store := { s.store with busUsed := false } } := by
  have ports : (fun p : PortIx => presenceReading (pins.presence.getLsbD p.val) s.ports[p]) = fun p =>
      { s.ports[p] with presenceRun := if pins.presence.getLsbD p.val = (s.ports[p]).presence then 0
                                       else min ((s.ports[p]).presenceRun + 1) 20 } := funext fun p => presenceReading_eq _ _
  rw [nextTick, if_pos h, (applyUpsets_spec upsets (advance pins s)).1, ← ports]
  rfl

/-- What was due and has been taken is not due after the tick either. -/
theorem DueTaken.nextTick {s u : State} (h : DueTaken s u) (pins : Pins) (upsets : List (LaneIx × Nat)) (hu : u.started = true) :
    DueTaken s (nextTick pins upsets u) := by
  have tick := nextTick_started pins upsets hu
  generalize Machine.nextTick pins upsets u = t at tick ⊢
  have unit : t.pistol.unit = u.pistol.unit := by rw [tick]; exact Pistol.take_unit _ _ _
  have port : ∀ p, ∃ run, t.port p = { u.port p with presenceRun := run } := fun p => by
    rw [tick]; exact ⟨_, by simp [State.port]; rfl⟩
  have driver : t.driver = u.driver := by rw [tick]
  have zeros : t.zeros = u.zeros := by rw [tick]
  have seq : t.seq = u.seq := by rw [tick]
  have detectors : t.detectors = u.detectors := by rw [tick]
  have host : t.host = u.host := by rw [tick]
  have job : t.store.job = u.store.job := by rw [tick]
  have deadline : t.store.deadline = u.store.deadline := by rw [tick]
  have line : lineState t = lineState u := lineState_congr (congrArg Sequencer.history seq)
  obtain ⟨edge, shot, glitch, hold, presence, breaks, silence, helloWait, pulse, zero, settle, window, recallShot, heldAge, load, save, reply⟩ := h
  rw [← unit] at edge shot glitch hold
  rw [← driver] at pulse
  rw [← seq] at settle recallShot
  rw [← seq, ← line] at window
  rw [← job, ← deadline] at load save
  rw [← host] at reply
  simp only [State.zero, State.detector, ← zeros, ← detectors] at zero heldAge
  refine ⟨edge, shot, glitch, hold, fun p hp => ?_, fun p => ?_, fun p => ?_, fun p => ?_, pulse, zero, settle, window, recallShot, heldAge,
    load, save, reply⟩ <;> obtain ⟨run, hrun⟩ := port p <;> rw [hrun]
  · exact presence p hp
  · exact breaks p
  · exact silence p
  · exact helloWait p

/-! ### The first tick -/

/-- The first readings of the presence lines write the ports and what their link resets clear (R17, R28). -/
def WritesLinks (s t : State) : Prop :=
  t = { s with ports := t.ports, assemblers := t.assemblers, zeros := t.zeros, events := t.events }

theorem WritesLinks.trans {a b c : State} (h : WritesLinks a b) (k : WritesLinks b c) : WritesLinks a c :=
  Eq.trans k (congrArg (fun x => { x with ports := c.ports, assemblers := c.assemblers, zeros := c.zeros, events := c.events }) h)

theorem WritesLinks.linkReset (p : PortIx) (lane : Option LaneIx) (s : State) : WritesLinks s (linkReset p lane s) := by
  rw [linkReset_writes]; rfl

theorem WritesLinks.firstPresence (pins : Pins) (p : PortIx) (s : State) : WritesLinks s (firstPresence pins p s) := by
  unfold Machine.firstPresence
  simp only
  split
  · exact .trans (b := s.setPort p { s.port p with presence := pins.presence.getLsbD p.val, presenceRun := 0 }) rfl (.linkReset p _ _)
  · rfl

theorem WritesLinks.firstPresences (pins : Pins) (ps : List PortIx) (s : State) : WritesLinks s (forPorts ps (Machine.firstPresence pins) s) :=
  forPorts_induct (P := WritesLinks s) ps rfl fun p _ _ ht => ht.trans (.firstPresence pins p _)

/-- What the first tick writes: the clock, the pins, the pistol's sample, the ports and what their link resets clear, and the start of the
load (R17, R191, R197). -/
theorem firstTick_writes (pins : Pins) (s : State) : ∃ ports assemblers zeros events deadline, firstTick pins s =
    { s with clock := s.clock + 1, pins := pins, started := true,
             pistol := { s.pistol with prev := some pins.pistol, sample := none },
             ports := ports, assemblers := assemblers, zeros := zeros, events := events,
             store := { s.store with job := .addressing, deadline := deadline, busUsed := false } } := by
  have presences := WritesLinks.firstPresences pins allPorts
    { s with clock := s.clock + 1#32, pins := pins, started := true,
             pistol := { s.pistol with prev := some pins.pistol, sample := none } }
  rw [firstTick, (show _ = _ from presences)]
  exact ⟨_, _, _, _, _, rfl⟩

/-! ### TICK -/

/-- TICK on a running part. -/
theorem exec_tick (pins : Pins) (upsets : List (LaneIx × Nat)) {s : State} (h : s.resetHeld = false) :
    exec (.tick pins upsets) s = .next (nextTick pins upsets (if s.started then takeDue s else s)) :=
  live_running (tickStep pins upsets) h

theorem exec_startUpFirstTick (pins : Pins) {s : State} (h : s.resetHeld = false) (hs : s.started = false) :
    exec (.startUpFirstTick pins) s = .next (firstTick pins s) := by
  refine (live_running (startUpFirstTickStep pins) h).trans ?_
  simp [startUpFirstTickStep, hs]

/-- The tick before the first one is the first one (entry 13). -/
theorem nextTick_first (pins : Pins) (upsets : List (LaneIx × Nat)) {s : State} (h : s.started = false) :
    nextTick pins upsets s = firstTick pins s := by
  simp [nextTick, h]

/-- Every tick reads its pins, advances the clock by one, and leaves the part started; the host line, the attempt and the store's state
stand (R1). -/
theorem nextTick_spec (pins : Pins) (upsets : List (LaneIx × Nat)) (s : State) : (nextTick pins upsets s).pins = pins
    ∧ (nextTick pins upsets s).started = true ∧ (nextTick pins upsets s).clock = s.clock + 1
    ∧ (nextTick pins upsets s).host = s.host ∧ (nextTick pins upsets s).seq = s.seq
    ∧ (nextTick pins upsets s).store.state = s.store.state := by
  cases h : s.started with
  | true => rw [nextTick_started pins upsets h]; exact ⟨rfl, h, rfl, rfl, rfl, rfl⟩
  | false =>
    obtain ⟨ports, assemblers, zeros, events, deadline, first⟩ := firstTick_writes pins s
    rw [nextTick_first pins upsets h, first]
    exact ⟨rfl, rfl, rfl, rfl, rfl, rfl⟩

/-- A TICK with no reset to come: the clock goes on by one, and what was due is no longer due (R1, R3, R178). -/
theorem tick_noReset (pins : Pins) (upsets : List (LaneIx × Nat)) {s : State} (hs : s.started = true)
    (h : s.host.restartPending = false ∨ ∀ rep, s.host.tx ≠ .waiting rep s.clock) :
    (nextTick pins upsets (takeDue s)).clock = s.clock + 1 ∧ DueTaken s (nextTick pins upsets (takeDue s))
      ∧ ((∃ rep, s.host.tx = .waiting rep s.clock) → (nextTick pins upsets (takeDue s)).host.tx = .idle) := by
  obtain ⟨_, _, clock, host, _, _⟩ := nextTick_spec pins upsets (takeDue s)
  obtain ⟨tx, take, _, idle⟩ := takeDue_noReset h
  have frame := (takeEvents_spec s).1
  have taken := takeDue_dueTaken h
  generalize takeEvents s = v at take frame
  generalize takeDue s = u at clock host take taken ⊢
  have started : u.started = true := by rw [take]; exact frame.started.trans hs
  have now : u.clock = s.clock := by rw [take]; exact frame.clock
  refine ⟨by rw [clock, now], taken.nextTick pins upsets started, fun hx => ?_⟩
  rw [host, take]
  exact idle hx

/-- The TICK at which the reply of a RESTART is abandoned is the first one after the reset (R178, R196, entry 13). -/
theorem tick_restart (pins : Pins) (upsets : List (LaneIx × Nat)) {s : State} {rep : Reply} (h : s.host.tx = .waiting rep s.clock)
    (hr : s.host.restartPending = true) :
    (nextTick pins upsets (takeDue s)).clock = 1#32 ∧ (nextTick pins upsets (takeDue s)).seq.history = []
      ∧ (nextTick pins upsets (takeDue s)).store.state = .loading ∧ (nextTick pins upsets (takeDue s)).host.tx = .idle := by
  obtain ⟨_, _, clock, host, seq, store⟩ := nextTick_spec pins upsets (takeDue s)
  rw [clock, host, seq, store, takeDue_restart h hr]
  exact ⟨rfl, rfl, rfl, rfl⟩

/-- The samples of a tick, by the pistol unit's state (R4, R6, R8). -/
theorem Pistol.take_spec (now : Time) (active : Bool) (x : Pistol) :
    (x.unit = .quiet → x.take now active = if active = true ∧ x.prev = some false then { x with sample := some true }
        else { x with prev := some active, sample := none })
    ∧ (∀ te qe, x.unit = .qualifying te qe → 
        x.take now active = if active = true ∧ qe ≠ now then { x with prev := some true, sample := none }
          else { x with sample := some active })
    ∧ (x.unit = .held →
        x.take now active = { x with prev := some active, sample := none,
                                          quietRun := if active then 0 else min (x.quietRun + 1) 500 }) := by
  unfold Pistol.take
  refine ⟨fun h => ?_, fun te qe h => ?_, fun h => ?_⟩ <;> rw [h]
  · simp only [ne_comm (a := qe)]
  · rfl

/-- Settles O5: what is due is taken by its commands, and the tick that follows is the first after a reset or any other. -/
theorem tickAdvancesClock : Obligations.TickAdvancesClock := by
  refine ⟨fun pins upsets s hr => ?_, fun pins upsets s hr hs => ?_⟩
  · have tick := exec_tick pins upsets hr
    cases hs : s.started with
    | false =>
      rw [hs, if_neg Bool.false_ne_true] at tick
      obtain ⟨hpins, hstarted, clock, _⟩ := nextTick_spec pins upsets s
      refine ⟨_, tick, hpins, hstarted, fun _ => ?_, nofun, fun _ => clock, nofun, nofun⟩
      rw [exec_startUpFirstTick pins hr hs, nextTick_first pins upsets hs]
    | true =>
      rw [hs, if_pos rfl] at tick
      obtain ⟨hpins, hstarted, _⟩ := nextTick_spec pins upsets (takeDue s)
      have noReset := tick_noReset pins upsets hs
      have restart := fun rep => tick_restart pins upsets (s := s) (rep := rep)
      generalize nextTick pins upsets (takeDue s) = t at *
      exact ⟨t, tick, hpins, hstarted, nofun, fun _ hp ⟨rep, htx⟩ => restart rep htx hp,
        fun h => (noReset (h.resolve_left Bool.noConfusion)).1, fun _ hp hw => (noReset (.inl hp)).2.2 hw, fun _ h => (noReset h).2.1⟩
  · obtain ⟨runs, held⟩ := Performs.takeDue s hr
    have nothing := @takeDue_nothing s
    have tick := exec_tick pins upsets hr
    rw [if_pos hs] at tick
    generalize takeDue s = u at *
    refine ⟨u, runs, nothing, fun hu => ?_, fun hu => ?_⟩
    · rw [tick, nextTick_first pins upsets hu, exec_startUpFirstTick pins held hu]
    · obtain ⟨quiet, qualifying, holding⟩ := Pistol.take_spec (u.clock + 1) pins.pistol u.pistol
      exact ⟨_, _, tick.trans (congrArg _ (nextTick_started pins upsets hu)), quiet, qualifying, holding,
        (applyUpsets_spec upsets (advance pins u)).2⟩

end Sys2Proof.Machine
end

section
/-! PROOFS. The outbound line of a lane link port: the next frame, the waiting break and the offer of a frame (R18, R28). -/

namespace Sys2Proof.Machine

/-! ### The next frame (R18) -/

/-- While a frame is being sent no other begins. -/
theorem beginNext_sending {x : Port} (h : x.sending ≠ none) : beginNext x = x := by
  unfold beginNext; split <;> simp_all

/-- While a break is being sent no frame begins. -/
theorem beginNext_low {x : Port} {e : Time} (h : x.brk = .low e) : beginNext x = x := by
  unfold beginNext; split <;> simp_all

theorem beginNext_empty {x : Port} (h : x.queue = []) : beginNext x = x := by
  unfold beginNext; split <;> simp_all

/-- With nothing being sent and no break being sent, the oldest waiting frame begins. -/
theorem beginNext_oldest {x : Port} {f : OutFrame} {rest : List OutFrame} (hs : x.sending = none) (hb : x.brk = .clear ∨ x.brk = .waits)
    (hq : x.queue = f :: rest) : beginNext x = { x with sending := some f, queue := rest } := by
  unfold beginNext
  rcases hb with hb | hb <;> simp [hs, hb, hq]

/-! ### The waiting break (R28) -/

/-- A break waits while a frame is being sent. -/
theorem beginBreak_sending {x : Port} (e : Time) (h : x.sending ≠ none) : beginBreak e x = x := by
  unfold beginBreak; split <;> simp_all

theorem beginBreak_notWaiting {x : Port} (e : Time) (h : x.brk ≠ .waits) : beginBreak e x = x := by
  unfold beginBreak; split <;> simp_all

/-- A break begins when nothing is being sent and nothing waits before it. -/
theorem beginBreak_idle {x : Port} (e : Time) (hb : x.brk = .waits) (hs : x.sending = none) (hq : x.queue = []) :
    beginBreak e x = { x with brk := .low e } := by
  unfold beginBreak; simp [hb, hs, hq]

/-! ### The line when a frame has ended (R18, R28) -/

theorem lineAfter_idle {x : Port} {e : Time} (hq : x.queue = []) (hb : x.brk = .clear) : beginBreak e (beginNext x) = x := by
  rw [beginNext_empty hq, beginBreak_notWaiting e (by simp [hb])]

theorem lineAfter_break {x : Port} {e : Time} (hs : x.sending = none) (hq : x.queue = []) (hb : x.brk = .waits) :
    beginBreak e (beginNext x) = { x with brk := .low e } := by
  rw [beginNext_empty hq, beginBreak_idle e hb hs hq]

theorem lineAfter_next {x : Port} {e : Time} {f : OutFrame} {rest : List OutFrame} (hs : x.sending = none) (hq : x.queue = f :: rest)
    (hb : x.brk = .clear ∨ x.brk = .waits) : beginBreak e (beginNext x) = { x with sending := some f, queue := rest } := by
  rw [beginNext_oldest hs hb hq, beginBreak_sending e (by simp)]

/-! ### The offer of a frame (R18) -/

theorem offerFrame_full (f : OutFrame) {x : Port} (h : 8 ≤ x.queue.length) : offerFrame f x = x := if_neg (by omega)

/-- On a line that is not idle the frame waits as the newest. -/
theorem offerFrame_busy (f : OutFrame) {x : Port} (hq : x.queue.length < 8) (h : x.sending ≠ none ∨ ∃ e, x.brk = .low e) :
    offerFrame f x = { x with queue := x.queue ++ [f] } := by
  rw [offerFrame, if_pos hq]
  rcases h with h | ⟨e, h⟩
  · exact beginNext_sending h
  · exact beginNext_low h

/-- On an idle line the frame begins at once. -/
theorem offerFrame_idle (f : OutFrame) {x : Port} (hq : x.queue = []) (hs : x.sending = none) (hb : x.brk = .clear) :
    offerFrame f x = { x with sending := some f } := by
  have next : beginNext { x with queue := [f] } = { x with sending := some f, queue := [] } := beginNext_oldest hs (.inl hb) rfl
  rw [offerFrame, if_pos (by simp [hq]), hq, List.nil_append, next, ← hq]

/-! ### The two commands -/

/-- A command whose meaning writes one port. -/
theorem next_setPort (s : State) (p : PortIx) {x y : Port} (h : x = y) :
    (.next (s.setPort p x) : Host.Outcome State Fault Refusal) = .next { s with ports := s.ports.set p y } := by rw [h]; rfl

theorem exec_breakEnd {s : State} {p : PortIx} (hr : s.resetHeld = false) (h : (s.port p).brk = .low s.clock) :
    exec (.breakEnd p) s = .next (s.setPort p (beginNext { s.port p with brk := .clear })) :=
  (live_running (breakEndStep p) hr).trans (congrArg _ (if_pos h))

theorem exec_outboundFrameSent {s : State} {p : PortIx} {g : OutFrame} (hr : s.resetHeld = false) (h : (s.port p).sending = some g) :
    exec (.outboundFrameSent p) s =
      .next (s.setPort p (beginBreak (tadd s.clock 2) (beginNext { s.port p with sending := none }))) :=
  (live_running (outboundFrameSentStep p) hr).trans (congrArg _ (if_pos (by simp [h])))

/-- Settles O42: a break end and the end of a frame begin the oldest waiting frame, or the waiting break when no frame waits. -/
theorem outboundLine : Obligations.OutboundLine := by
  refine ⟨fun s p x hr hx => ⟨fun hb hs => ?_, fun g hs => ?_⟩, fun f x => ⟨offerFrame_full f, offerFrame_busy f, offerFrame_idle f⟩⟩
  all_goals subst hx
  · have ends := exec_breakEnd hr hb
    exact ⟨fun hq => ends.trans (next_setPort s p (beginNext_empty hq)),
      fun f rest hq => ends.trans (next_setPort s p (beginNext_oldest hs (.inl rfl) hq))⟩
  · have sent := exec_outboundFrameSent hr hs
    refine ⟨fun hq hb => sent.trans (next_setPort s p ?_), fun hq hb => sent.trans (next_setPort s p ?_),
      fun f rest hq hb => sent.trans (next_setPort s p ?_)⟩
    · exact lineAfter_idle hq hb
    · exact lineAfter_break rfl hq hb
    · exact lineAfter_next rfl hq hb

end Sys2Proof.Machine
end

section
/-! PROOFS. What the loss of a link leaves behind (R27, R34, R36, R40, R58, R77, R126). -/

namespace Sys2Proof.Machine

/-! ### A port written does not meet the reports of a lane -/

theorem State.setPort_again (s : State) (p : PortIx) (x y : Port) : (s.setPort p x).setPort p y = s.setPort p y := by
  simp [State.setPort]

theorem changeRecord_setPort (id : Nat) (f : Record → Record) (s : State) (p : PortIx) (x : Port) :
    changeRecord id f (s.setPort p x) = (changeRecord id f s).setPort p x := by
  simp only [changeRecord_eq]; rfl

theorem reportFlags_setPort (l : LaneIx) (f : LaneFlags) (s : State) (p : PortIx) (x : Port) :
    reportFlags l f (s.setPort p x) = (reportFlags l f s).setPort p x := by
  unfold reportFlags
  rw [show openRecord (s.setPort p x) = openRecord s from rfl]
  cases openRecord s with
  | none => rfl
  | some r => exact changeRecord_setPort _ _ s p x

theorem reportUnsure_setPort (l : LaneIx) (f : LaneFlags) (s : State) (p : PortIx) (x : Port) :
    reportUnsure l f (s.setPort p x) = (reportUnsure l f s).setPort p x := by
  unfold reportUnsure
  rw [show openRecord (s.setPort p x) = openRecord s from rfl]
  cases openRecord s with
  | none => rfl
  | some r =>
    simp only
    split
    · exact changeRecord_setPort _ _ s p x
    · exact reportFlags_setPort l f s p x

theorem streamEnded_setPort (l : LaneIx) (s : State) (p : PortIx) (x : Port) :
    streamEnded l (s.setPort p x) = (streamEnded l s).setPort p x := by
  have flags := fun d => reportFlags_setPort l { link := true } (s.setDetector l d) p x
  have unsure := fun d => reportUnsure_setPort l { link := true } (s.setDetector l d) p x
  unfold streamEnded
  rw [show (s.setPort p x).detector l = s.detector l from rfl]
  simp only
  split
  · split
    · exact flags _
    · rfl
  · exact flags _
  · exact flags _
  · split
    · exact unsure _
    · exact flags _
  · split
    · exact unsure _
    · exact flags _
  · split
    · exact flags _
    · rfl

/-- The stream-ended notice of a port, by the link state and the mismatched mark that the port has (R36). -/
theorem portStreamEnded_setPort (lane : Option LaneIx) (s : State) (p : PortIx) {x : Port} (hl : x.link = (s.port p).link)
    (hm : x.mismatched = (s.port p).mismatched) :
    portStreamEnded p lane (s.setPort p x) = (portStreamEnded p lane s).setPort p x := by
  unfold portStreamEnded
  cases lane with
  | none => rfl
  | some l =>
    simp only [State.setPort_port, if_true, hl, hm]
    split
    · exact streamEnded_setPort l s p x
    · rfl

/-! ### The loss as one update -/

/-- What the blocks beside the detector and the record do when a port has left STREAMING: the port is written, the lane's buffer cleared
and its ZERO ended (R58, R77). -/
def closeLink (p : PortIx) (lane : Option LaneIx) (z : Port) (s : State) : State :=
  match lane with
  | some l => failZero l 2#32 ((clearAssembler l s).setPort p z)
  | none => s.setPort p z

/-- The stream-ended notice that a port gives as its link is lost, LINK_LOST having been placed (R34, R36). -/
def lossNotice (p : PortIx) (s : State) : State := portStreamEnded p (mappedLane s p) (linkEvent .linkLost p s)

/-- The loss of a STREAMING port's link, the port then being `z`: LINK_LOST, the stream-ended notice, and the closing of the link. -/
def loseLink (p : PortIx) (z : Port) (s : State) : State := closeLink p (mappedLane s p) z (lossNotice p s)

theorem linkReset_streaming {p : PortIx} (lane : Option LaneIx) {s : State} (h : (s.port p).link = .streaming) :
    linkReset p lane s = closeLink p lane ((s.port p).linkReset s.clock) s := by
  unfold linkReset closeLink
  cases lane with
  | none => rfl
  | some l => simp only [h, if_true]

theorem closeLink_setPort (p : PortIx) (lane : Option LaneIx) (z x : Port) (s : State) :
    closeLink p lane z (s.setPort p x) = closeLink p lane z s := by
  unfold closeLink
  cases lane with
  | none => exact s.setPort_again p x z
  | some l => exact congrArg (failZero l 2#32) ((clearAssembler l s).setPort_again p x z)

/-- An entry to LOST of a port that has been written, its link state and mismatched mark kept, is a loss of the link as it stood (R34). -/
theorem enterLost_setPort {s : State} {p : PortIx} {x : Port} (hs : (s.port p).link = .streaming) (hl : x.link = .streaming)
    (hm : x.mismatched = (s.port p).mismatched) : enterLost p (s.setPort p x) = loseLink p (x.linkReset s.clock) s := by
  have notice := portStreamEnded_setPort (x := x) (mappedLane s p) (linkEvent .linkLost p s) p (hl.trans hs.symm) hm
  have now := (OnlyRecords.portStreamEnded p (mappedLane s p) (linkEvent .linkLost p s)).clock
  have lost : enterLost p (s.setPort p x) = linkReset p (mappedLane s p)
      (portStreamEnded p (mappedLane s p) ((linkEvent .linkLost p s).setPort p x)) := rfl
  rw [lost, notice, linkReset_streaming _ (by simpa using hl), closeLink_setPort, State.setPort_port, if_pos rfl, State.setPort_clock, now]
  rfl

theorem enterLost_eq {s : State} {p : PortIx} (h : (s.port p).link = .streaming) :
    enterLost p s = loseLink p ((s.port p).linkReset s.clock) s := by
  have := enterLost_setPort h h rfl
  rwa [State.setPort_self] at this

/-- An entry to ABSENT of a STREAMING port that has been written, its link state and mismatched mark kept (R27). -/
theorem enterAbsent_setPort {s : State} {p : PortIx} {x : Port} (hs : (s.port p).link = .streaming) (hl : x.link = .streaming)
    (hm : x.mismatched = (s.port p).mismatched) : enterAbsent p (s.setPort p x) = loseLink p x.enterAbsent s := by
  have notice := portStreamEnded_setPort (x := x) (mappedLane s p) (linkEvent .linkLost p s) p (hl.trans hs.symm) hm
  have absent : enterAbsent p (s.setPort p x) = closeLink p (mappedLane s p) x.enterAbsent
      (portStreamEnded p (mappedLane s p) ((linkEvent .linkLost p s).setPort p x)) := by
    have ports := (OnlyRecords.portStreamEnded p (mappedLane s p) ((linkEvent .linkLost p s).setPort p x)).ports
    have written : (portStreamEnded p (mappedLane s p) ((linkEvent .linkLost p s).setPort p x)).port p = x := by
      rw [State.port, ports]; simp
    have event : linkEvent .linkLost p (s.setPort p x) = (linkEvent .linkLost p s).setPort p x := rfl
    unfold enterAbsent
    simp only [State.setPort_port, hl, if_true, event, show mappedLane (s.setPort p x) p = mappedLane s p from rfl, written]
    cases mappedLane s p <;> rfl
  rw [absent, notice, closeLink_setPort]
  rfl

/-! ### The closing of a link (R58, R77) -/

/-- A lane's buffer after it has been cleared (R58). -/
def Assembler.cleared : Assembler :=
  { raw := Vector.replicate 4 none, fresh := Vector.replicate 4 false, overload := Vector.replicate 4 false, gapPending := true }

theorem clearAssembler_eq (l : LaneIx) (s : State) : clearAssembler l s = s.setAssembler l .cleared := rfl

theorem failZero_none {l : LaneIx} {s : State} (reason : BitVec 32) (h : s.zero l = none) : failZero l reason s = s := by
  simp [failZero, h]

theorem failZero_some {l : LaneIx} {s : State} (reason : BitVec 32) (h : s.zero l ≠ none) :
    failZero l reason s = place .zeroFail (some l) (openId s) reason (s.setZero l none) := by
  obtain ⟨z, hz⟩ := Option.ne_none_iff_exists'.mp h
  simp [failZero, hz]

/-- Whether one was in flight or not, a lane that has failed its ZERO has none. -/
theorem failZero_zeros (l : LaneIx) (reason : BitVec 32) (s : State) : (failZero l reason s).zeros = s.zeros.set l none := by
  by_cases h : s.zero l = none
  · rw [failZero_none reason h]
    have := congrArg State.zeros (s.setZero_self l)
    rw [h] at this
    exact this.symm
  · rw [failZero_some reason h]; rfl

/-- The closing of a link writes its port, the buffers, the ZEROs and the events alone. -/
theorem closeLink_writes (p : PortIx) (lane : Option LaneIx) (z : Port) (s : State) : closeLink p lane z s =
    { s with ports := s.ports.set p z, assemblers := (closeLink p lane z s).assemblers, zeros := (closeLink p lane z s).zeros,
             events := (closeLink p lane z s).events } := by
  unfold closeLink failZero
  cases lane with
  | none => rfl
  | some l => simp only; split <;> rfl

theorem closeLink_unmapped (p : PortIx) (z : Port) (s : State) : closeLink p none z s = s.setPort p z := rfl

theorem closeLink_assemblers (p : PortIx) (l : LaneIx) (z : Port) (s : State) :
    (closeLink p (some l) z s).assemblers = s.assemblers.set l .cleared := by
  unfold closeLink failZero
  simp only
  split <;> rfl

theorem closeLink_zeros (p : PortIx) (l : LaneIx) (z : Port) (s : State) : (closeLink p (some l) z s).zeros = s.zeros.set l none :=
  failZero_zeros l 2#32 _

theorem closeLink_noZero {p : PortIx} {lane : Option LaneIx} {s : State} (z : Port) (h : ∀ l, lane = some l → s.zero l = none) :
    (closeLink p lane z s).events = s.events := by
  unfold closeLink
  cases lane with
  | none => rfl
  | some l =>
    have idle : ((clearAssembler l s).setPort p z).zero l = none := h l rfl
    simp only [failZero_none 2#32 idle]
    rfl

theorem closeLink_zeroFails {p : PortIx} {l : LaneIx} {s : State} (z : Port) (h : s.zero l ≠ none) :
    (closeLink p (some l) z s).events = arrive s.line.attnMode ⟨.zeroFail, s.clock, some l, openId s, 2#32⟩ s.events :=
  congrArg State.events (failZero_some 2#32 (s := (clearAssembler l s).setPort p z) h)

/-! ### Reports on a lane of the open record -/

theorem HistoryInv.of_seq {s t : State} (h : HistoryInv s) (e : t.seq = s.seq) : HistoryInv t := by
  obtain ⟨size, ids, next, chain, lanes, closed⟩ := h
  constructor <;> rw [e] <;> assumption

/-- The result of a lane that has been changed. -/
theorem Record.onLane_result {r : Record} {l : LaneIx} {x : LaneResult} {g : LaneResult → LaneResult} (hg : ∀ y, (g y).lane = y.lane)
    (h : r.result l = some x) : (r.onLane l g).result l = some (g x) := by
  have hx : x.lane = l := by simpa using List.find?_some h
  have same : ((fun y : LaneResult => decide (y.lane = l)) ∘ fun y => if y.lane = l then g y else y) = fun y => decide (y.lane = l) := by
    funext y
    by_cases hy : y.lane = l <;> simp [hy, hg]
  unfold Record.result at h ⊢
  rw [Record.onLane, List.find?_map, same, h]
  simp [hx]

/-- A change to a lane of the open record is read back from the record of its id (R80, R83). -/
theorem changeRecord_result {s : State} {l : LaneIx} {r : Record} {x : LaneResult} {g : LaneResult → LaneResult} (hi : HistoryInv s)
    (ho : openRecord s = some r) (hx : r.result l = some x) (hg : ∀ y, (g y).lane = y.lane) :
    ∃ r', recordOf (changeRecord r.id (fun r => r.onLane l g) s) r.id = some r' ∧ r'.result l = some (g x) := by
  have newest := hi.newestOpen ho
  exact ⟨r.onLane l g, recordOf_last (r := r.onLane l g) (newest.changed _) newest.ids, Record.onLane_result hg hx⟩

theorem reportFlags_result {s : State} {l : LaneIx} {r : Record} {x : LaneResult} (f : LaneFlags) (hi : HistoryInv s)
    (ho : openRecord s = some r) (hx : r.result l = some x) :
    ∃ r', recordOf (reportFlags l f s) r.id = some r' ∧ r'.result l = some { x with flags := x.flags.union f } := by
  simp only [reportFlags, ho]
  exact changeRecord_result hi ho hx fun _ => rfl

theorem reportUnsure_result {s : State} {l : LaneIx} {r : Record} {x : LaneResult} (f : LaneFlags) (hi : HistoryInv s)
    (ho : openRecord s = some r) (hx : r.result l = some x) (hv : x.verdict = .pending) :
    ∃ r', recordOf (reportUnsure l f s) r.id = some r'
      ∧ r'.result l = some { x with verdict := .unsure, flags := x.flags.union f } := by
  have pending : isPending r l = true := by simp [isPending, hx, hv]
  simp only [reportUnsure, ho, pending, if_true]
  exact changeRecord_result hi ho hx fun _ => rfl

/-- A change to a lane of a record opens and closes none (R80). -/
theorem openId_onLane (id : Nat) (l : LaneIx) (g : LaneResult → LaneResult) (s : State) :
    openId (changeRecord id (fun r => r.onLane l g) s) = openId s := by
  have same : (Record.isOpen ∘ fun r : Record => if r.id = id then r.onLane l g else r) = Record.isOpen := by
    funext r
    by_cases h : r.id = id <;> simp [h, Record.isOpen, Record.onLane]
  unfold openId openRecord
  rw [changeRecord_history, List.find?_map, same]
  cases s.seq.history.find? Record.isOpen with
  | none => rfl
  | some r => by_cases h : r.id = id <;> simp [h, Record.onLane]

/-- What a report on a lane leaves alone beside what `OnlyRecords` says: the detectors, the id of the open record, and a reservation of any
other record (R86, R152). -/
structure LaneReport (s t : State) : Prop where
  detectors   : t.detectors = s.detectors
  openId      : openId t = openId s
  reservation : t.reservation = s.reservation ∨ (t.reservation = none ∧ s.reservation = some (Machine.openId s))

theorem LaneReport.refl (s : State) : LaneReport s s := ⟨rfl, rfl, .inl rfl⟩

theorem LaneReport.onLane {s : State} {r : Record} (h : openRecord s = some r) (l : LaneIx) (g : LaneResult → LaneResult) :
    LaneReport s (changeRecord r.id (fun r => r.onLane l g) s) := by
  refine ⟨changeRecord_detectors _ _ s, openId_onLane r.id l g s, ?_⟩
  rw [changeRecord_eq, show Machine.openId s = r.id by simp [Machine.openId, h]]
  simp only
  split
  · exact .inl rfl
  · split
    · next hr => exact .inr ⟨rfl, hr⟩
    · exact .inl rfl

theorem LaneReport.reportFlags (l : LaneIx) (f : LaneFlags) (s : State) : LaneReport s (reportFlags l f s) := by
  unfold Machine.reportFlags
  split
  · exact .refl s
  · next h => exact .onLane h l _

theorem LaneReport.reportUnsure (l : LaneIx) (f : LaneFlags) (s : State) : LaneReport s (reportUnsure l f s) := by
  unfold Machine.reportUnsure
  split
  · exact .refl s
  · next h =>
    split
    · exact .onLane h l _
    · exact .reportFlags l f s

theorem reportFlags_detector (l : LaneIx) (f : LaneFlags) (s : State) (d : Detector) :
    (reportFlags l f (s.setDetector l d)).detector l = d := by
  rw [State.detector, (LaneReport.reportFlags l f _).detectors]; simp

theorem reportUnsure_detector (l : LaneIx) (f : LaneFlags) (s : State) (d : Detector) :
    (reportUnsure l f (s.setDetector l d)).detector l = d := by
  rw [State.detector, (LaneReport.reportUnsure l f _).detectors]; simp

/-! ### The stream-ended notice, case by case (R126) -/

/-- The detector is SETTLING, in CAPTURE, WATCHING or CROSSING. -/
def Detector.working (d : Detector) : Prop := d.state = .settling ∨ d.state = .capture ∨ d.state = .watching ∨ d.state = .crossing

/-- A detector at work before the shot is known abandons what it holds. -/
theorem streamEnded_working {l : LaneIx} {s : State} (ht : (s.detector l).shotTime = none) (h : (s.detector l).working) :
    streamEnded l s = reportFlags l { link := true } (s.setDetector l (s.detector l).linkLost) := by
  rcases h with h | h | h | h <;> simp [streamEnded, h, ht]

/-- A detector that waits in OFF for its attempt, or in DONE with a held crossing, has its link out. -/
theorem streamEnded_waiting {l : LaneIx} {s : State}
    (h : ((s.detector l).state = .off ∧ (s.detector l).attempt ≠ none ∧ (s.detector l).linkOut = false)
      ∨ ((s.detector l).state = .done ∧ (s.detector l).held ≠ none)) :
    streamEnded l s = reportFlags l { link := true } (s.setDetector l { s.detector l with linkOut := true }) := by
  rcases h with ⟨h, ha, ho⟩ | ⟨h, hh⟩
  · simp [streamEnded, h, ho, Option.isSome_iff_ne_none, ha]
  · simp [streamEnded, h, Option.isSome_iff_ne_none, hh]

/-- A detector in OFF without an attempt or with its link out already, and one DONE that holds no crossing, stay as they are. -/
theorem streamEnded_idle {l : LaneIx} {s : State}
    (h : ((s.detector l).state = .off ∧ ((s.detector l).attempt = none ∨ (s.detector l).linkOut = true))
      ∨ ((s.detector l).state = .done ∧ (s.detector l).held = none)) : streamEnded l s = s := by
  rcases h with ⟨h, ha | ho⟩ | ⟨h, hh⟩
  · simp [streamEnded, h, ha]
  · simp [streamEnded, h, ho]
  · simp [streamEnded, h, hh]

/-- A detector that knows the shot and has not confirmed a crossing is DONE, its lane UNSURE. -/
theorem streamEnded_afterShot {l : LaneIx} {s : State} (ht : (s.detector l).shotTime ≠ none)
    (h : (s.detector l).state = .watching ∨ (s.detector l).state = .crossing) :
    streamEnded l s = reportUnsure l { link := true } (s.setDetector l { s.detector l with state := .done }) := by
  rcases h with h | h <;> simp [streamEnded, h, Option.isSome_iff_ne_none, ht]

/-- A detector that waits in OFF or holds a crossing has its link out after the notice, whether it was out before or not. -/
theorem streamEnded_waiting_detector {l : LaneIx} {s : State}
    (h : ((s.detector l).state = .off ∧ (s.detector l).attempt ≠ none) ∨ ((s.detector l).state = .done ∧ (s.detector l).held ≠ none)) :
    (streamEnded l s).detector l = { s.detector l with linkOut := true } := by
  rcases h with ⟨hoff, ha⟩ | hheld
  · cases hout : (s.detector l).linkOut with
    | false => rw [streamEnded_waiting (.inl ⟨hoff, ha, hout⟩), reportFlags_detector]
    | true => rw [streamEnded_idle (.inl ⟨hoff, .inr hout⟩), ← hout]
  · rw [streamEnded_waiting (.inr hheld), reportFlags_detector]

/-- A lane that has not been judged, its detector at work before the shot, waiting in OFF or holding a crossing, takes the flag LINK. -/
theorem streamEnded_flags {l : LaneIx} {s : State}
    (h : ((s.detector l).shotTime = none ∧ (s.detector l).working)
      ∨ ((s.detector l).state = .off ∧ (s.detector l).attempt ≠ none ∧ (s.detector l).linkOut = false)
      ∨ ((s.detector l).state = .done ∧ (s.detector l).held ≠ none)) :
    ∃ d, streamEnded l s = reportFlags l { link := true } (s.setDetector l d) := by
  rcases h with ⟨ht, h⟩ | h
  · exact ⟨_, streamEnded_working ht h⟩
  · exact ⟨_, streamEnded_waiting h⟩

/-- A stream-ended notice writes the lane's detector and reports on the lane. -/
theorem streamEnded_reports (l : LaneIx) (s : State) : ∃ d, LaneReport (s.setDetector l d) (streamEnded l s) := by
  have kept : LaneReport (s.setDetector l (s.detector l)) s := by rw [State.setDetector_self]; exact .refl s
  have flags := fun d => LaneReport.reportFlags l { link := true } (s.setDetector l d)
  have unsure := fun d => LaneReport.reportUnsure l { link := true } (s.setDetector l d)
  unfold streamEnded
  simp only
  split
  · split
    · exact ⟨_, flags _⟩
    · exact ⟨_, kept⟩
  · exact ⟨_, flags _⟩
  · exact ⟨_, flags _⟩
  · split
    · exact ⟨_, unsure _⟩
    · exact ⟨_, flags _⟩
  · split
    · exact ⟨_, unsure _⟩
    · exact ⟨_, flags _⟩
  · split
    · exact ⟨_, flags _⟩
    · exact ⟨_, kept⟩

/-! ### What a lost link leaves -/

theorem lossNotice_frame (p : PortIx) (s : State) : OnlyRecords (linkEvent .linkLost p s) (lossNotice p s) :=
  .portStreamEnded p _ _

/-- A port without a lane, and a mismatched one, give no notice (R36). -/
theorem lossNotice_none {p : PortIx} {s : State} (h : mappedLane s p = none ∨ (s.port p).mismatched = true) :
    lossNotice p s = linkEvent .linkLost p s := by
  unfold lossNotice portStreamEnded
  cases hl : mappedLane s p with
  | none => rfl
  | some l =>
    have mismatched : ((linkEvent .linkLost p s).port p).mismatched = true := h.resolve_left (by simp [hl])
    simp [mismatched]

theorem lossNotice_lane {p : PortIx} {l : LaneIx} {s : State} (hl : mappedLane s p = some l) (h : (s.port p).link = .streaming)
    (hm : (s.port p).mismatched = false) : lossNotice p s = streamEnded l (linkEvent .linkLost p s) := by
  unfold lossNotice portStreamEnded
  rw [hl]
  exact if_pos ⟨h, hm⟩

/-- The notice writes the detector of the mapped lane, if any, and reports on that lane. -/
theorem lossNotice_reports (p : PortIx) (s : State) :
    ∃ detectors, (∀ l, mappedLane s p ≠ some l → detectors[l] = s.detector l)
      ∧ LaneReport { linkEvent .linkLost p s with detectors := detectors } (lossNotice p s) := by
  have kept : ∀ t, t = linkEvent .linkLost p s → LaneReport { linkEvent .linkLost p s with detectors := s.detectors } t := by
    rintro t rfl
    exact .refl _
  unfold lossNotice portStreamEnded
  cases hl : mappedLane s p with
  | none => exact ⟨s.detectors, fun _ _ => rfl, kept _ rfl⟩
  | some l =>
    simp only
    split
    · obtain ⟨d, report⟩ := streamEnded_reports l (linkEvent .linkLost p s)
      refine ⟨_, fun k hk => ?_, report⟩
      exact (State.setDetector_detector s l k d).trans (if_neg fun e => hk (congrArg some e))
    · exact ⟨s.detectors, fun _ _ => rfl, kept _ rfl⟩

theorem lossNotice_openId (p : PortIx) (s : State) : openId (lossNotice p s) = openId s := by
  obtain ⟨_, _, report⟩ := lossNotice_reports p s
  exact report.openId

theorem loseLink_port (p q : PortIx) (z : Port) (s : State) : (loseLink p z s).port q = if p = q then z else s.port q := by
  have ports := (lossNotice_frame p s).ports
  rw [loseLink, closeLink_writes]
  refine (State.setPort_port _ p q z).trans ?_
  rw [State.port, ports]
  rfl

theorem loseLink_detector (p : PortIx) (l : LaneIx) (z : Port) (s : State) :
    (loseLink p z s).detector l = (lossNotice p s).detector l := by
  rw [loseLink, closeLink_writes]; rfl

theorem loseLink_seq (p : PortIx) (z : Port) (s : State) : (loseLink p z s).seq = (lossNotice p s).seq := by
  rw [loseLink, closeLink_writes]

theorem loseLink_reservation (p : PortIx) (z : Port) (s : State) : (loseLink p z s).reservation = (lossNotice p s).reservation := by
  rw [loseLink, closeLink_writes]

theorem recordOf_loseLink (p : PortIx) (z : Port) (s : State) (id : Nat) : recordOf (loseLink p z s) id = recordOf (lossNotice p s) id := by
  rw [recordOf, loseLink_seq]; rfl

/-- The events of a loss: LINK_LOST, and ZERO_FAIL when the lane's ZERO was in flight (R40, R77, entry 9). -/
theorem loseLink_events (p : PortIx) (z : Port) (s : State) :
    ((∀ l, mappedLane s p = some l → s.zero l = none) → (loseLink p z s).events = (linkEvent .linkLost p s).events)
    ∧ ∀ l, mappedLane s p = some l → s.zero l ≠ none → (loseLink p z s).events =
        arrive s.line.attnMode ⟨.zeroFail, s.clock, some l, openId s, 2#32⟩ (linkEvent .linkLost p s).events := by
  have frame := lossNotice_frame p s
  have zero : ∀ l, (lossNotice p s).zero l = s.zero l := fun l => by rw [State.zero, frame.zeros]; rfl
  constructor
  · intro h
    rw [loseLink, closeLink_noZero z fun l hl => (zero l).trans (h l hl), frame.events]
  · intro l hl hz
    rw [loseLink, hl, closeLink_zeroFails z (by rw [zero]; exact hz), frame.events, frame.line, frame.clock, lossNotice_openId]
    rfl

/-- The buffer and the ZERO of the mapped lane, and those of every other lane (R58, R77). -/
theorem loseLink_lane (p : PortIx) (l : LaneIx) (z : Port) (s : State) :
    (mappedLane s p ≠ some l → (loseLink p z s).assembler l = s.assembler l ∧ (loseLink p z s).zero l = s.zero l)
    ∧ (mappedLane s p = some l → (loseLink p z s).assembler l = .cleared ∧ (loseLink p z s).zero l = none) := by
  have frame := lossNotice_frame p s
  rw [loseLink, State.assembler, State.zero]
  cases hm : mappedLane s p with
  | none =>
    rw [closeLink_unmapped, State.setPort_assemblers, State.setPort_zeros, frame.assemblers, frame.zeros]
    exact ⟨fun _ => ⟨rfl, rfl⟩, nofun⟩
  | some k =>
    rw [closeLink_assemblers, closeLink_zeros, frame.assemblers, frame.zeros]
    have buffer := State.setAssembler_assembler s k l .cleared
    have run := State.setZero_zero s k l none
    refine ⟨fun h => ?_, fun h => ?_⟩
    · rw [if_neg fun e => h (congrArg some e)] at buffer run
      exact ⟨buffer, run⟩
    · rw [if_pos (Option.some.inj h)] at buffer run
      exact ⟨buffer, run⟩

/-- What the loss of a STREAMING port's link leaves, whatever the port then is (R27, R34, R36, R40, R58, R77, R126, R152). -/
theorem loseLink_leaves {s : State} {p : PortIx} (z : Port) (h : (s.port p).link = .streaming) :
    LinkLossLeaves s p (loseLink p z s) := by
  have frame := lossNotice_frame p s
  obtain ⟨detectors, others, report⟩ := lossNotice_reports p s
  have lane := fun l hl hm => lossNotice_lane (l := l) hl h hm
  have detector := fun l => loseLink_detector p l z s
  have record := recordOf_loseLink p z s
  have seq := loseLink_seq p z s
  constructor
  case otherPorts => exact fun q hq => (loseLink_port p q z s).trans (if_neg hq.symm)
  case events => rintro q rfl; exact loseLink_events p z s
  case otherLanes =>
    intro l hl
    obtain ⟨buffer, zero⟩ := (loseLink_lane p l z s).1 hl
    refine ⟨buffer, zero, (detector l).trans ?_⟩
    rw [State.detector, report.detectors]
    exact others l hl
  case unmapped => intro hl; rw [seq, lossNotice_none (.inl hl)]; rfl
  case lane => exact fun l hl => ((loseLink_lane p l z s).2 hl).symm
  case mismatched => intro l hl hm; rw [detector, seq, lossNotice_none (.inr hm)]; exact ⟨rfl, rfl⟩
  case atWork =>
    intro l hl hm ht hd
    rw [detector, lane l hl hm, streamEnded_working (s := linkEvent .linkLost p s) ht hd, reportFlags_detector]
    exact ⟨rfl, rfl, rfl⟩
  case waiting =>
    intro l hl hm hd
    rw [detector, lane l hl hm]
    exact streamEnded_waiting_detector (s := linkEvent .linkLost p s) hd
  case idle =>
    intro l hl hm hd
    have kept : streamEnded l (linkEvent .linkLost p s) = linkEvent .linkLost p s :=
      streamEnded_idle (hd.imp_left fun ⟨hoff, ha⟩ => ⟨hoff, .inl ha⟩)
    rw [detector, seq, lane l hl hm, kept]
    exact ⟨rfl, rfl⟩
  case linkReport =>
    intro l hl hm hd r x hi ho hx
    obtain ⟨d, flags⟩ := streamEnded_flags (s := linkEvent .linkLost p s) hd
    rw [record, lane l hl hm, flags]
    exact reportFlags_result _ (hi.of_seq rfl) ho hx
  case afterShot =>
    intro l hl hm ht hd
    rw [detector, lane l hl hm, streamEnded_afterShot (s := linkEvent .linkLost p s) ht hd]
    refine ⟨?_, fun r x hi ho hx hv => ?_⟩
    · rw [reportUnsure_detector]
    · rw [record, lane l hl hm, streamEnded_afterShot (s := linkEvent .linkLost p s) ht hd]
      exact reportUnsure_result _ (hi.of_seq rfl) ho hx hv
  case reservation => rw [loseLink_reservation]; exact report.reservation
  case frame =>
    rw [loseLink, closeLink_writes]
    exact ⟨frame.rings, frame.laneMap, frame.profiles, frame.line, frame.driver, frame.host, frame.store, frame.pistol, frame.clock,
      frame.pins, frame.resetHeld, frame.started, frame.pending⟩

end Sys2Proof.Machine
end

section
/-! PROOFS. Silence, presence and the hello wait: link resets in and out of STREAMING (R26 to R28, R31, R32, R34). -/

namespace Sys2Proof.Machine

/-! ### A link reset, and an entry to ABSENT from LINKING -/

/-- The buffers of the lanes when that of the lane given, if any, has been cleared (R58). -/
def clearedBuffers (lane : Option LaneIx) (s : State) : Vector Assembler 10 :=
  match lane with
  | some l => s.assemblers.set l .cleared
  | none => s.assemblers

/-- The port after a link reset that found it not STREAMING: no frame is offered, and the break begins at once on an idle line (R28). -/
theorem Port.linkReset_notStreaming (now : Time) {x : Port} (h : x.link ≠ .streaming) : x.linkReset now =
    { x.forget with
      queue := [], brk := if x.sending = none then .low (tadd now 1) else .waits,
      helloWaitEnd := some (tadd now 5000), silenceEnd := none, streamingSince := none, link := .linking } := by
  rw [Port.linkReset_eq]
  simp [h, Port.forget]

/-- The port after a link reset that found it STREAMING: stream-off goes out first, and the break waits for it (R28). -/
theorem Port.linkReset_streaming (now : Time) {x : Port} (h : x.link = .streaming) : x.linkReset now =
    { x.forget with
      sending := some (x.sending.getD .streamOff), queue := if x.sending = none then [] else [.streamOff], brk := .waits,
      helloWaitEnd := some (tadd now 5000), silenceEnd := none, streamingSince := none, link := .linking } := by
  rw [Port.linkReset_eq]
  simp [h, Port.forget]

theorem linkReset_setPort (lane : Option LaneIx) (s : State) (p : PortIx) {x : Port} (h : x.link ≠ .streaming) :
    linkReset p lane (s.setPort p x) =
      { s with ports := s.ports.set p (x.linkReset s.clock), assemblers := clearedBuffers lane s } := by
  unfold linkReset clearedBuffers
  cases lane <;> simp [h, clearAssembler_eq, State.setPort, State.setAssembler, State.port]

theorem enterAbsent_setPort_linking (s : State) (p : PortIx) {x : Port} (h : x.link = .linking) :
    enterAbsent p (s.setPort p x) =
      { s with ports := s.ports.set p x.enterAbsent, assemblers := clearedBuffers (mappedLane s p) s } := by
  unfold enterAbsent clearedBuffers
  rw [show mappedLane (s.setPort p x) p = mappedLane s p from rfl]
  cases mappedLane s p <;> simp [h, clearAssembler_eq, State.setPort, State.setAssembler, State.port]

/-! ### The commands -/

theorem exec_silenceEndExpiry {s : State} {p : PortIx} (hr : s.resetHeld = false) (h : (s.port p).link = .streaming)
    (he : (s.port p).silenceEnd = some s.clock) : exec (.silenceEndExpiry p) s = .next (enterLost p s) :=
  (live_running (silenceEndStep p) hr).trans (congrArg _ (if_pos ⟨h, he⟩))

theorem exec_helloWaitEndExpiry {s : State} {p : PortIx} (hr : s.resetHeld = false) (h : (s.port p).link = .linking)
    (he : (s.port p).helloWaitEnd = some s.clock) : exec (.helloWaitEndExpiry p) s = .next (linkReset p (mappedLane s p) s) :=
  (live_running (helloWaitEndStep p) hr).trans (congrArg _ (if_pos ⟨h, he⟩))

theorem exec_presenceActive {s : State} {p : PortIx} (hr : s.resetHeld = false) (h : (s.port p).link = .absent)
    (hp : (s.port p).presence = false) (hn : (s.port p).presenceRun = 20) : exec (.presenceActive p) s =
      .next (linkReset p (mappedLane s p) (s.setPort p { s.port p with presence := true, presenceRun := 0 })) := by
  refine (live_running (presenceActiveStep p) hr).trans (congrArg _ ?_)
  exact (if_pos ⟨by simp [presenceDue, hn], hp⟩).trans (if_pos h)

theorem exec_presenceInactive {s : State} {p : PortIx} (hr : s.resetHeld = false)
    (h : (s.port p).link = .linking ∨ (s.port p).link = .streaming) (hp : (s.port p).presence = true)
    (hn : (s.port p).presenceRun = 20) : exec (.presenceInactive p) s =
      .next (enterAbsent p (s.setPort p { s.port p with presence := false, presenceRun := 0 })) := by
  refine (live_running (presenceInactiveStep p) hr).trans (congrArg _ ?_)
  exact (if_pos ⟨by simp [presenceDue, hn], hp⟩).trans (if_pos h)

/-- Settles O40: the silence end is a loss of the link, by the link reset that leaves LOST again. -/
theorem silenceLosesLink : Obligations.SilenceLosesLink := by
  intro s p hr hl he
  have leaves := loseLink_leaves ((s.port p).linkReset s.clock) hl
  rw [← enterLost_eq hl] at leaves
  refine ⟨enterLost p s, exec_silenceEndExpiry hr hl he, ?_⟩
  rw [enterLost_port, if_pos rfl, Port.linkReset_streaming _ hl]
  refine ⟨rfl, rfl, rfl, rfl, rfl, rfl, rfl, fun c => ?_, rfl, rfl, rfl, rfl, rfl, rfl, rfl, rfl, leaves⟩
  simp [Port.forget]

/-- Settles O41: a link reset of a port that was not STREAMING, and the two ways into ABSENT. -/
theorem presenceAndHelloWait : Obligations.PresenceAndHelloWait := by
  rintro s p x y hr rfl rfl
  refine ⟨?_, fun hl hp hn => ?_⟩
  · intro asm hasm
    replace hasm : clearedBuffers (mappedLane s p) s = asm := by rw [hasm]; rfl
    refine ⟨fun hl hp hn => ?_, fun hl he => ?_, fun hl hp hn => ?_⟩
    · rw [exec_presenceActive hr hl hp hn, linkReset_setPort _ _ _ (by simp [hl]), hasm,
        Port.linkReset_notStreaming _ (by simp [hl])]
      rfl
    · have reset := linkReset_setPort (mappedLane s p) s p (x := s.port p) (by simp [hl])
      rw [State.setPort_self] at reset
      rw [exec_helloWaitEndExpiry hr hl he, reset, hasm, Port.linkReset_notStreaming _ (by simp [hl])]
      rfl
    · rw [exec_presenceInactive hr (.inl hl) hp hn, enterAbsent_setPort_linking _ _ (by simp [hl]), hasm]
      rfl
  · refine ⟨_, (exec_presenceInactive hr (.inr hl) hp hn).trans (congrArg _ (enterAbsent_setPort hl hl rfl)), ?_, loseLink_leaves _ hl⟩
    rw [loseLink_port, if_pos rfl]
    rfl

end Sys2Proof.Machine
end

section
/-! PROOFS. Bad frames, and the status frames that bring no link up: their judgement and their use (R18, R21 to R23, R32 to R34, R200). -/

namespace Sys2Proof.Machine

/-! ### The break end and the commands of the link frames (section 2.3) -/

theorem beforeBreakEnd_iff (now : Time) (x : Port) :
    beforeBreakEnd now x = true ↔ x.brk = .waits ∨ ∃ e, x.brk = .low e ∧ isBefore now e = true := by
  unfold beforeBreakEnd
  cases x.brk <;> simp

theorem beforeBreakEnd_false {now : Time} {x : Port} (hw : x.brk ≠ .waits) (hl : ∀ e, x.brk = .low e → isBefore now e = false) :
    beforeBreakEnd now x = false := by
  rw [← Bool.not_eq_true, beforeBreakEnd_iff]
  rintro (h | ⟨e, h, hb⟩)
  · exact hw h
  · rw [hl e h] at hb; cases hb

/-- The sound bytes of a frame's fields, begun when no break is still to end, are taken as a valid frame (R22). -/
theorem linkReceive_valid {p : PortIx} {s : State} (f : LinkFields) (hlink : (s.port p).link ≠ .absent)
    (hin : (s.port p).inbound = inboundEmpty) (hb : beforeBreakEnd s.clock (s.port p) = false) :
    linkReceive p (linkRxOf f) s = useFrame p (linkUse f) (s.setPort p ((s.port p).validFrame s.clock)) := by
  have sound : [linkByteOf (linkByte0 f), linkByteOf (linkByte1 f), linkByteOf (linkByte2 f),
      linkByteOf (linkByte3 f (linkFieldsCheck f))].any linkError = false := by simp [linkError_linkByteOf]
  refine (linkReceive_frame p s (linkByteOf (linkByte0 f)) (linkByteOf (linkByte1 f)) (linkByteOf (linkByte2 f))
    (linkByteOf (linkByte3 f (linkFieldsCheck f))) false hlink hin (linkByte0_msb f) (linkByte1_msb f) (linkByte2_msb f)
    (linkByte3_msb f _)).trans ?_
  have agrees := linkCheckAgrees_fields f
  have fields := linkFields_frame f
  rw [sound, hb]
  simp only [frameComplete, linkByteOf, agrees, fields, validFrame, Bool.or_self, Bool.false_eq_true, if_false, if_true]

/-! ### Alive frames and discarded status frames (R23, R33, R200) -/

/-- A line that is not idle sends a frame or a break. -/
theorem Port.busy {x : Port} (hw : x.brk ≠ .waits) (h : x.brk ≠ .clear ∨ x.sending ≠ none) :
    x.sending ≠ none ∨ ∃ e, x.brk = .low e := by
  cases hb : x.brk with
  | clear => exact .inl (h.resolve_left fun k => k hb)
  | waits => exact absurd hb hw
  | low e => exact .inr ⟨e, rfl⟩

theorem aliveTaken_offers {s : State} {p : PortIx} {x : Port} (hl : x.link = .streaming) (hq : .streamOn ∉ x.queue) :
    aliveTaken p (s.setPort p x) = s.setPort p (offerFrame .streamOn x) := by
  simp [aliveTaken, hl, hq, State.setPort_again, -State.setPort_ports]

theorem aliveTaken_nothing {s : State} {p : PortIx} {x : Port} (h : x.link ≠ .streaming ∨ .streamOn ∈ x.queue) :
    aliveTaken p (s.setPort p x) = s.setPort p x := by
  simp only [aliveTaken, State.setPort_port, if_true]
  exact if_neg fun k => h.elim (· k.1) k.2

/-- The status frames of no use (R23, R200). -/
theorem linkUse_discarded {f : LinkFields} (hs : f.status = true)
    (h : f.selector = 2#2 ∨ f.selector = 3#2 ∨ (f.selector = 0#2 ∧ (f.value.toNat = 0 ∨ 4 < f.value.toNat))) :
    linkUse f = .discarded := by
  unfold linkUse
  rw [hs]
  rcases h with h | h | ⟨h, hv⟩
  · simp [h]
  · simp [h]
  · simp only [h, if_true, Bool.true_eq_false, if_false]
    exact if_neg (by omega)

/-- Settles O38: a valid frame sets its marks, and an alive frame in STREAMING offers stream-on besides. -/
theorem statusFramesTaken : Obligations.StatusFramesTaken := by
  rintro s p y hr hin hw hlow hlink rfl
  have hb := beforeBreakEnd_false hw hlow
  have linked : (s.port p).link ≠ .absent := by rcases hlink with h | h <;> simp [h]
  have taken : ∀ f, live (linkReceive p (linkRxOf f)) s =
      .next (useFrame p (linkUse f) (s.setPort p ((s.port p).validFrame s.clock))) := fun f =>
    (live_running _ hr).trans (congrArg _ (linkReceive_valid f linked hin hb))
  refine ⟨fun hl hq => ?_, fun h => (taken aliveFields).trans (congrArg _ (aliveTaken_nothing (h.imp_left fun h => ?_))),
    fun f hs h => ?_⟩
  · have offered := (taken aliveFields).trans (congrArg _ (aliveTaken_offers hl hq))
    refine ⟨fun hb hs hq => ?_, fun hbusy hq => ?_, fun hq => ?_⟩
    · exact offered.trans (next_setPort s p (offerFrame_idle _ hq hs hb))
    · exact offered.trans (next_setPort s p (offerFrame_busy _ hq (Port.busy hw hbusy)))
    · exact offered.trans (next_setPort s p (offerFrame_full _ hq))
  · simp [Port.validFrame, h]
  · exact (taken f).trans (by rw [linkUse_discarded hs h]; rfl)

/-! ### Bad frames (R22, R32) -/

/-- A port that has counted a bad frame. -/
def Port.countBad (parity : Bool) (x : Port) : Port :=
  { x with consecutiveBad := min (x.consecutiveBad + 1) 255,
           parityCount := if parity then min (x.parityCount + 1) 65535 else x.parityCount,
           checkCount := if parity then x.checkCount else min (x.checkCount + 1) 65535 }

/-- The eighth bad frame in a row in STREAMING loses the link; any other is counted (R32). -/
theorem badFrame_eq (parity : Bool) (p : PortIx) (s : State) : badFrame parity p s =
    if (s.port p).link = .streaming ∧ (s.port p).consecutiveBad = 7 then enterLost p (s.setPort p ((s.port p).countBad parity))
    else s.setPort p ((s.port p).countBad parity) := by
  have eighth : satInc 255 (s.port p).consecutiveBad = 8 ↔ (s.port p).consecutiveBad = 7 := by unfold satInc; omega
  simp only [badFrame, eighth]
  rfl

theorem badFrame_counted {parity : Bool} {p : PortIx} {s : State} (h : (s.port p).link = .linking ∨ (s.port p).consecutiveBad ≠ 7) :
    badFrame parity p s = s.setPort p ((s.port p).countBad parity) := by
  rw [badFrame_eq, if_neg]
  rintro ⟨hl, hn⟩
  rcases h with h | h
  · rw [hl] at h; cases h
  · exact h hn

theorem badFrame_eighth {parity : Bool} {p : PortIx} {s : State} (hl : (s.port p).link = .streaming)
    (hn : (s.port p).consecutiveBad = 7) :
    badFrame parity p s = loseLink p (((s.port p).countBad parity).linkReset s.clock) s := by
  rw [badFrame_eq, if_pos ⟨hl, hn⟩]
  exact enterLost_setPort hl hl rfl

/-- A complete frame with an error, or whose check does not agree, is bad (R22). -/
theorem frameComplete_bad {p : PortIx} {error : Bool} {b0 b1 b2 b3 : Byte} {s : State}
    (h : error = true ∨ linkCheckAgrees b0 b1 b2 b3 = false) : frameComplete p error false b0 b1 b2 b3 s = badFrame error p s := by
  cases error with
  | true => rfl
  | false => simp [frameComplete, h.resolve_left Bool.false_ne_true]

/-- Silence on a port that has been written loses the link as it stood, and the port is as its link reset makes it (R32, R34). -/
theorem exec_silence_setPort {s : State} {p : PortIx} {y : Port} (hr : s.resetHeld = false) (hs : (s.port p).link = .streaming)
    (hl : y.link = .streaming) (hm : y.mismatched = (s.port p).mismatched) :
    exec (.silenceEndExpiry p) { s with ports := s.ports.set p { y with silenceEnd := some s.clock } } =
      .next (loseLink p (y.linkReset s.clock) s) := by
  have port := State.setPort_port s p p { y with silenceEnd := some s.clock }
  rw [if_pos rfl] at port
  refine (exec_silenceEndExpiry (s := s.setPort p { y with silenceEnd := some s.clock }) hr ?_ ?_).trans (congrArg _ ?_)
  · rw [port]; exact hl
  · rw [port]; rfl
  · exact enterLost_setPort (x := { y with silenceEnd := some s.clock }) hs hl hm

/-- A start byte that comes while a frame is being received ends that frame and begins the next (R21). -/
theorem linkReceive_cut {p : PortIx} {s : State} {b : RxByte} (early : Bool) (hlink : (s.port p).link ≠ .absent)
    (hin : (s.port p).inbound.bytes ≠ []) (hb : b.data.msb = true) : linkReceive p { bytes := [b], early := early } s =
      beginFrame p b early (frameCut p (s.port p).inbound.error (s.port p).inbound.early (setInbound p inboundEmpty s)) := by
  obtain ⟨b0, rest, h⟩ := List.exists_cons_of_ne_nil hin
  simp [linkReceive, linkByte, hlink, hb, h]

/-- A byte that begins no frame and continues none changes nothing (R21). -/
theorem linkByte_stray {p : PortIx} {s : State} {b : RxByte} (early : Bool) (hin : (s.port p).inbound = inboundEmpty)
    (hb : b.data.msb = false) : linkByte p early b s = s := by
  unfold linkByte
  rw [hin, hb]
  split <;> rfl

theorem linkReceive_stray {p : PortIx} {s : State} (early : Bool) (hin : (s.port p).inbound = inboundEmpty) (bytes : List RxByte)
    (h : ∀ b ∈ bytes, b.data.msb = false) : linkReceive p { bytes := bytes, early := early } s = s := by
  unfold linkReceive
  induction bytes with
  | nil => rfl
  | cons b bytes ih =>
    rw [List.foldl_cons, linkByte_stray early hin (h b (by simp))]
    exact ih fun c hc => h c (by simp [hc])

/-- A port without a pod takes no byte (R21). -/
theorem linkReceive_absent {p : PortIx} {s : State} (rx : LinkRx) (h : (s.port p).link = .absent) : linkReceive p rx s = s := by
  unfold linkReceive
  induction rx.bytes with
  | nil => rfl
  | cons b bytes ih => rw [List.foldl_cons, show linkByte p rx.early b s = s from if_pos h, ih]

/-- A frame begun before the break end is discarded when it ends (section 2.3). -/
theorem linkReceive_beforeBreakEnd {p : PortIx} {s : State} {b0 b1 b2 b3 : RxByte} {early : Bool}
    (hin : (s.port p).inbound = inboundEmpty) (h0 : b0.data.msb = true) (h1 : b1.data.msb = false) (h2 : b2.data.msb = false)
    (h3 : b3.data.msb = false) (h : (early || beforeBreakEnd s.clock (s.port p)) = true) :
    linkReceive p { bytes := [b0, b1, b2, b3], early := early } s = s := by
  by_cases hlink : (s.port p).link = .absent
  · exact linkReceive_absent _ hlink
  · rw [linkReceive_frame p s b0 b1 b2 b3 early hlink hin h0 h1 h2 h3, h]
    rfl

/-! ### A frame cut short -/

/-- The frame that a start byte begins, by the port as it stood before the byte. -/
def Port.begun (now : Time) (b : RxByte) (early : Bool) (x : Port) : Inbound :=
  { bytes := [b.data], error := linkError b, early := early || beforeBreakEnd now x }

theorem Port.begun_eq {now : Time} {b : RxByte} {early : Bool} {x : Port} {j : Inbound} (hbytes : j.bytes = [b.data])
    (herror : j.error = linkError b)
    (hearly : j.early = true ↔ early = true ∨ x.brk = .waits ∨ ∃ e, x.brk = .low e ∧ isBefore now e = true) :
    j = x.begun now b early := by
  obtain ⟨bytes, error, mark⟩ := j
  have hmark : mark = (early || beforeBreakEnd now x) := by
    rw [Bool.eq_iff_iff, Bool.or_eq_true, beforeBreakEnd_iff]; exact hearly
  subst hbytes herror hmark
  rfl

theorem beginFrame_setPort {s : State} {p : PortIx} {x : Port} (b : RxByte) (early : Bool) :
    beginFrame p b early (s.setPort p x) = s.setPort p { x with inbound := x.begun s.clock b early } := by
  simp [beginFrame, setInbound, Port.begun, State.setPort_again, -State.setPort_ports]

/-- A frame begun before the break end and cut short is not counted (section 2.3). -/
theorem linkReceive_cut_early {p : PortIx} {s : State} {b : RxByte} (early : Bool) (hlink : (s.port p).link ≠ .absent)
    (hin : (s.port p).inbound.bytes ≠ []) (hb : b.data.msb = true) (he : (s.port p).inbound.early = true) :
    linkReceive p { bytes := [b], early := early } s =
      s.setPort p { s.port p with inbound := (s.port p).begun s.clock b early } := by
  rw [linkReceive_cut early hlink hin hb, he]
  exact beginFrame_setPort b early

/-- A frame cut short is counted, and the next is begun (R21, R22). -/
theorem linkReceive_cut_counted {p : PortIx} {s : State} {b : RxByte} (early : Bool) (hlink : (s.port p).link ≠ .absent)
    (hin : (s.port p).inbound.bytes ≠ []) (hb : b.data.msb = true) (he : (s.port p).inbound.early = false)
    (hn : (s.port p).link = .linking ∨ (s.port p).consecutiveBad ≠ 7) :
    linkReceive p { bytes := [b], early := early } s =
      s.setPort p { (s.port p).countBad (s.port p).inbound.error with inbound := (s.port p).begun s.clock b early } := by
  have port := setInbound_port p inboundEmpty s
  have counted : badFrame (s.port p).inbound.error p (setInbound p inboundEmpty s) =
      s.setPort p { (s.port p).countBad (s.port p).inbound.error with inbound := inboundEmpty } := by
    rw [badFrame_counted (by rw [port]; exact hn), port]
    exact State.setPort_again s p _ _
  rw [linkReceive_cut early hlink hin hb, he]
  exact (congrArg _ counted).trans (beginFrame_setPort b early)

/-- The eighth bad frame in a row, cut short, loses the link; the frame that the start byte begins is before the new break's end. -/
theorem linkReceive_cut_eighth {p : PortIx} {s : State} {b : RxByte} (early : Bool) (hl : (s.port p).link = .streaming)
    (hin : (s.port p).inbound.bytes ≠ []) (hb : b.data.msb = true) (he : (s.port p).inbound.early = false)
    (hn : (s.port p).consecutiveBad = 7) :
    linkReceive p { bytes := [b], early := early } s =
      setInbound p { bytes := [b.data], error := linkError b, early := true }
        (loseLink p (((s.port p).countBad (s.port p).inbound.error).linkReset s.clock) s) := by
  have port := setInbound_port p inboundEmpty s
  have lost : badFrame (s.port p).inbound.error p (setInbound p inboundEmpty s) =
      loseLink p (((s.port p).countBad (s.port p).inbound.error).linkReset s.clock) s := by
    rw [badFrame_eq, port, if_pos ⟨hl, hn⟩]
    refine (congrArg (enterLost p) (State.setPort_again s p _ _)).trans ?_
    exact enterLost_setPort (x := { (s.port p).countBad (s.port p).inbound.error with inbound := inboundEmpty }) hl hl rfl
  have brk : ((((s.port p).countBad (s.port p).inbound.error).linkReset s.clock)).brk = .waits := by
    rw [Port.linkReset_streaming (x := (s.port p).countBad _) _ hl]
  rw [linkReceive_cut early (by simp [hl]) hin hb, he]
  refine (congrArg _ lost).trans ?_
  simp [beginFrame, loseLink_port, beforeBreakEnd, brk]

/-- What a loss of the link leaves of the port that the counting of a bad frame preceded (R28, R34). -/
theorem loseLink_resetPort {s : State} {p : PortIx} (y : Port) (h : y.link = .streaming) :
    ((loseLink p (y.linkReset s.clock) s).port p).link = .linking
    ∧ ((loseLink p (y.linkReset s.clock) s).port p).consecutiveBad = 0
    ∧ ((loseLink p (y.linkReset s.clock) s).port p).parityCount = y.parityCount
    ∧ ((loseLink p (y.linkReset s.clock) s).port p).checkCount = y.checkCount
    ∧ ((loseLink p (y.linkReset s.clock) s).port p).helloWaitEnd = some (s.clock + 5000#32)
    ∧ ((loseLink p (y.linkReset s.clock) s).port p).capability = none := by
  rw [loseLink_port, if_pos rfl, Port.linkReset_streaming _ h]
  exact ⟨rfl, rfl, rfl, rfl, rfl, rfl⟩

/-- Settles O39: a bad frame by its judgement, a frame begun before the break end, a frame cut short, and stray bytes. -/
theorem badFramesCounted : Obligations.BadFramesCounted := by
  have linked : ∀ {x : Port}, x.link = .linking ∨ x.link = .streaming → x.link ≠ .absent := by
    rintro x (h | h) <;> simp [h]
  refine ⟨?_, ?_, ?_, ?_⟩
  · rintro s p b0 b1 b2 b3 y hr hin hw hlow hlink h0 h1 h2 h3 rfl hbad
    have received := linkReceive_frame p s b0 b1 b2 b3 false (linked hlink) hin h0 h1 h2 h3
    rw [beforeBreakEnd_false hw hlow] at received
    have judged := (live_running _ hr).trans (congrArg Host.Outcome.next (received.trans (frameComplete_bad hbad)))
    refine ⟨fun h => judged.trans (congrArg _ (badFrame_counted h)), fun hl hn => ?_⟩
    have lost := judged.trans (congrArg _ (badFrame_eighth hl hn))
    obtain ⟨link, bad, parity, check, wait, _⟩ := loseLink_resetPort (s := s) (p := p) ((s.port p).countBad ([b0, b1, b2, b3].any linkError)) hl
    exact ⟨lost.trans (exec_silence_setPort (y := (s.port p).countBad _) hr hl hl rfl).symm,
      _, lost, link, bad, parity, check, wait, loseLink_leaves _ hl⟩
  · rintro s p b0 b1 b2 b3 early rx c hr hin h0 h1 h2 h3 he rfl hc
    have mark : (early || beforeBreakEnd s.clock (s.port p)) = true := by rw [Bool.or_eq_true, beforeBreakEnd_iff]; exact he
    have nothing := linkReceive_beforeBreakEnd hin h0 h1 h2 h3 mark
    have kept := (live_running (linkReceive p { bytes := [b0, b1, b2, b3], early := early }) hr).trans (congrArg _ nothing)
    rcases hc with rfl | rfl | rfl | rfl | rfl <;> exact kept
  · rintro s p b early i j y hr rfl hin hlink hb ⟨hbytes, herror, hearly⟩ rfl
    obtain rfl := Port.begun_eq (x := s.port p) hbytes herror hearly
    have run : ∀ {t}, linkReceive p { bytes := [b], early := early } s = t → exec (.badFrame p { bytes := [b], early := early }) s = .next t :=
      fun h => (live_running _ hr).trans (congrArg _ h)
    refine ⟨fun he => run (linkReceive_cut_early early (linked hlink) hin hb he),
      fun he hn => run (linkReceive_cut_counted early (linked hlink) hin hb he hn), fun he hl hn => ?_⟩
    obtain ⟨link, bad, parity, check, _, _⟩ := loseLink_resetPort (s := s) (p := p) ((s.port p).countBad (s.port p).inbound.error) hl
    have silence := exec_silence_setPort (y := { (s.port p).countBad (s.port p).inbound.error with
      inbound := (s.port p).begun s.clock b early }) hr hl hl rfl
    exact ⟨_, silence, run (linkReceive_cut_eighth early hl hin hb he hn), link, bad, parity, check, loseLink_leaves _ hl⟩
  · intro s p bytes early hr hin h
    exact (live_running _ hr).trans (congrArg _ (linkReceive_stray early hin bytes h))

end Sys2Proof.Machine
end

section
/-! PROOFS. A pod's hello: the link comes up, waits for the load, or is lost (R30, R33, R35, R38, R40). -/

namespace Sys2Proof.Machine

/-! ### Two frames offered one after the other (R18) -/

/-- On a line that is not idle two frames wait, as far as the 8 places reach. -/
theorem offerFrame_pair_busy (f g : OutFrame) {x : Port} (hq : x.queue.length ≤ 8) (h : x.sending ≠ none ∨ ∃ e, x.brk = .low e) :
    offerFrame g (offerFrame f x) = { x with queue := (x.queue ++ [f, g]).take 8 } := by
  have one : (x.queue ++ [f]).length = x.queue.length + 1 := List.length_append
  have two : (x.queue ++ [f, g]).length = x.queue.length + 2 := List.length_append
  rcases Nat.lt_or_ge x.queue.length 8 with hlt | hge
  · rw [offerFrame_busy f hlt h]
    rcases Nat.lt_or_ge x.queue.length 7 with hlt7 | hge7
    · have all : (x.queue ++ [f, g]).take 8 = (x.queue ++ [f]) ++ [g] := by
        rw [List.take_of_length_le (two.trans_le (by omega)), List.append_cons]
      rw [all]
      exact offerFrame_busy g (by rw [one]; omega) h
    · have first : (x.queue ++ [f, g]).take 8 = x.queue ++ [f] := by
        rw [List.append_cons, List.take_left' (by rw [one]; omega)]
      rw [first]
      exact offerFrame_full g (by rw [one]; omega)
  · rw [offerFrame_full f hge, offerFrame_full g hge, List.take_left' (by omega)]

/-- On an idle line the first of two frames begins and the second waits; on any other both wait. -/
theorem offerFrame_pair (f g : OutFrame) {x : Port} (hw : x.brk ≠ .waits)
    (h : (x.brk = .clear ∧ x.sending = none ∧ x.queue = [])
      ∨ ((x.brk ≠ .clear ∨ x.sending ≠ none) ∧ x.queue.length ≤ 8)) :
    offerFrame g (offerFrame f x) =
      { x with sending := if x.brk = .clear then some (x.sending.getD f) else x.sending,
               queue := if x.brk = .clear ∧ x.sending = none then [g] else (x.queue ++ [f, g]).take 8 } := by
  rcases h with ⟨hb, hs, hq⟩ | ⟨hbusy, hq⟩
  · rw [offerFrame_idle f hq hs hb, offerFrame_busy g (by simp [hq]) (.inl (by simp))]
    simp [hb, hs, hq]
  · have queued : ¬(x.brk = .clear ∧ x.sending = none) := fun ⟨hb, hs⟩ => hbusy.elim (· hb) (· hs)
    have sending : (if x.brk = .clear then some (x.sending.getD f) else x.sending) = x.sending := by
      split
      · next hb =>
        obtain ⟨g, hg⟩ := Option.ne_none_iff_exists'.mp fun hs => queued ⟨hb, hs⟩
        simp [hg]
      · rfl
    rw [offerFrame_pair_busy f g hq (Port.busy hw hbusy), sending, if_neg queued]

/-! ### The mode frame's mask and the mismatched mark (R35, R38) -/

theorem beyondCapability_iff (set : BitVec 4) (n : Nat) :
    beyondCapability set n = true ↔ ∃ c : Chan, n ≤ c.val ∧ set.getLsbD c.val = true := by
  simp [beyondCapability, chansOf, mem_allChans, and_comm]

theorem enableMask_unmapped {s : State} {p : PortIx} (h : mappedLane s p = none) : enableMask s p = 0b1111#4 := by
  simp [enableMask, h]

theorem enableMask_mapped {s : State} {p : PortIx} {l : LaneIx} (h : mappedLane s p = some l) :
    enableMask s p = (s.lane l).sumSet ||| (s.lane l).commitSet := by
  simp [enableMask, h]

theorem isMismatched_unmapped {s : State} {p : PortIx} (n : Nat) (h : mappedLane s p = none) : isMismatched s p n = false := by
  simp [isMismatched, h]

theorem isMismatched_mapped {s : State} {p : PortIx} {l : LaneIx} (n : Nat) (h : mappedLane s p = some l) :
    isMismatched s p n = true ↔ ∃ c : Chan, n ≤ c.val ∧ (enableMask s p).getLsbD c.val = true := by
  rw [enableMask_mapped h, ← beyondCapability_iff]
  simp [isMismatched, h]

/-! ### The use of a hello (R30, R33) -/

theorem linkUse_hello {n : BitVec 16} (h1 : 1 ≤ n.toNat) (h4 : n.toNat ≤ 4) : linkUse (helloFields n) = .hello n.toNat := by
  simp [linkUse, helloFields, h1, h4]

theorem Port.validFrame_notStreaming (now : Time) {x : Port} (h : x.link ≠ .streaming) :
    x.validFrame now = { x with consecutiveBad := 0, lastValid := some now } := by
  simp [Port.validFrame, h]

theorem Port.validFrame_streaming (now : Time) {x : Port} (h : x.link = .streaming) :
    x.validFrame now = { x with consecutiveBad := 0, lastValid := some now, silenceEnd := some (tadd now 200) } := by
  simp [Port.validFrame, h]

/-- An entry to STREAMING, by the port as its two offered frames leave it (R30). -/
theorem enterStreaming_setPort {s : State} {p : PortIx} {x y : Port}
    (h : offerFrame .streamOn (offerFrame (.mode s.line.rate (enableMask s p)) x) = y) : enterStreaming p (s.setPort p x) =
      { s with
        ports := s.ports.set p
          { y with mismatched := isMismatched s p (x.capability.getD 0), helloWaitEnd := none, streamingSince := some s.clock,
                   lastValid := some s.clock, silenceEnd := some (tadd s.clock 200), consecutiveBad := 0, link := .streaming },
        events := (linkEvent .linkUp p s).events } := by
  subst h
  simp only [enterStreaming, State.setPort_port, if_true, State.setPort_again]
  rfl

theorem helloTaken_pending {s : State} {p : PortIx} {x : Port} (n : Nat) (hl : x.link = .linking) (hs : s.store.state = .loading) :
    helloTaken p n (s.setPort p x) = s.setPort p { x with capability := some n, helloPending := true } := by
  simp [helloTaken, hl, hs, State.setPort_again, -State.setPort_ports]

theorem helloTaken_enters {s : State} {p : PortIx} {x : Port} (n : Nat) (hl : x.link = .linking) (hs : s.store.state ≠ .loading) :
    helloTaken p n (s.setPort p x) = enterStreaming p (s.setPort p { x with capability := some n }) := by
  simp [helloTaken, hl, hs, State.setPort_again, -State.setPort_ports]

theorem helloTaken_recent {s : State} {p : PortIx} {x : Port} {since : Time} (n : Nat) (hl : x.link = .streaming)
    (hs : x.streamingSince = some since) (ht : tdiff s.clock since ≤ 10) : helloTaken p n (s.setPort p x) = s.setPort p x := by
  simp [helloTaken, hl, hs, Int.not_lt.mpr ht]

theorem helloTaken_late {s : State} {p : PortIx} {x : Port} {since : Time} (n : Nat) (hl : x.link = .streaming)
    (hs : x.streamingSince = some since) (ht : 10 < tdiff s.clock since) :
    helloTaken p n (s.setPort p x) = enterLost p (s.setPort p x) := by
  simp [helloTaken, hl, hs, ht]

/-- LINK_LOST is the first event that a loss adds (entry 9). -/
theorem loseLink_firstEvent {s : State} {p : PortIx} (z : Port) (hroom : s.events.list.length < 32) :
    (loseLink p z s).events.list[s.events.list.length]? =
      some ⟨.linkLost, s.clock, mappedLane s p, openId s, BitVec.ofNat 32 p.val⟩ := by
  have placed : (linkEvent .linkLost p s).events.list =
      s.events.list ++ [⟨.linkLost, s.clock, mappedLane s p, openId s, BitVec.ofNat 32 p.val⟩] :=
    congrArg EventQueue.list (arrive_room s.line.attnMode _ hroom)
  have kept : (linkEvent .linkLost p s).events.list <+: (loseLink p z s).events.list := by
    obtain ⟨noZero, zero⟩ := loseLink_events p z s
    by_cases h : ∀ l, mappedLane s p = some l → s.zero l = none
    · rw [noZero h]
    · push Not at h
      obtain ⟨l, hl, hz⟩ := h
      rw [zero l hl hz]
      exact arrive_keeps _ _ _
  obtain ⟨rest, hrest⟩ := kept
  rw [← hrest, placed]
  simp

/-- Settles O37: a hello by the link state, the load and the time since streaming began. -/
theorem helloBringsLinkUp : Obligations.HelloBringsLinkUp := by
  rintro s p n y hr hin hw hlow h1 h4 rfl
  have hb := beforeBreakEnd_false hw hlow
  have taken : (s.port p).link ≠ .absent → exec (.hello p (linkRxOf (helloFields n))) s =
      .next (helloTaken p n.toNat (s.setPort p ((s.port p).validFrame s.clock))) := fun linked => by
    refine (live_running _ hr).trans (congrArg _ ((linkReceive_valid _ linked hin hb).trans ?_))
    rw [linkUse_hello h1 h4]
    rfl
  have marks := fun hl => (s.port p).validFrame_notStreaming s.clock (h := hl)
  refine ⟨fun hl hs => ?_, fun hl hs hline => ?_, fun since hl hs ht => ?_, fun since hl hs ht => ?_⟩
  · rw [taken (by simp [hl]), helloTaken_pending (x := (s.port p).validFrame s.clock) _ hl hs, marks (by simp [hl])]
    rfl
  · have entered := enterStreaming_setPort (s := s) (p := p) (offerFrame_pair _ _
      (x := { s.port p with consecutiveBad := 0, lastValid := some s.clock, capability := some n.toNat }) hw hline)
    rw [taken (by simp [hl]), helloTaken_enters (x := (s.port p).validFrame s.clock) _ hl hs, marks (by simp [hl])]
    exact ⟨enableMask s p, isMismatched s p n.toNat, congrArg _ entered,
      fun h => ⟨enableMask_unmapped h, isMismatched_unmapped _ h⟩, fun l h => ⟨enableMask_mapped h, isMismatched_mapped _ h⟩⟩
  · rw [taken (by simp [hl]), helloTaken_recent (x := (s.port p).validFrame s.clock) _ hl hs ht, Port.validFrame_streaming _ hl]
    rfl
  · have lost : exec (.hello p (linkRxOf (helloFields n))) s =
        .next (loseLink p (((s.port p).validFrame s.clock).linkReset s.clock) s) := by
      rw [taken (by simp [hl]), helloTaken_late (x := (s.port p).validFrame s.clock) _ hl hs ht]
      exact congrArg _ (enterLost_setPort hl hl rfl)
    obtain ⟨link, _, _, _, wait, capability⟩ := loseLink_resetPort (s := s) (p := p) ((s.port p).validFrame s.clock) hl
    exact ⟨lost.trans (exec_silence_setPort (y := (s.port p).validFrame s.clock) hr hl hl rfl).symm, _, lost, link, wait, capability,
      loseLink_firstEvent _⟩

end Sys2Proof.Machine
end

section
/-! PROOFS. A sample frame that commits nothing: the sequence of its channel and the lane's buffer (R24, R25, R57, R59). -/

namespace Sys2Proof.Machine

theorem linkUse_sample (c : Chan) (sq : BitVec 4) (v : BitVec 16) (ovl : Bool) :
    linkUse (sampleFields c sq v ovl) = .sample c sq v ovl := rfl

theorem isJump_iff (expected : Option (BitVec 4)) (sq : BitVec 4) : isJump expected sq = true ↔ ∃ n, expected = some n ∧ n ≠ sq := by
  cases expected <;> simp [isJump]

/-- A sample taken by a STREAMING port, on a port without a lane and on a mapped one (R24, R25). -/
theorem sampleTaken_setPort {s : State} {p : PortIx} {x : Port} (c : Chan) (sq : BitVec 4) (v : BitVec 16) (ovl : Bool)
    {jump : Bool} (h : x.link = .streaming) (hj : isJump x.expected[c] sq = jump) :
    (mappedLane s p = none → sampleTaken p c sq v ovl (s.setPort p x) = s.setPort p (x.track c sq))
    ∧ ∀ l, mappedLane s p = some l → sampleTaken p c sq v ovl (s.setPort p x) =
        takeSample l { chan := c, raw := v, overload := ovl, jump := jump } (s.setPort p (x.track c sq)) := by
  subst hj
  have lane : ∀ y, mappedLane (s.setPort p y) p = mappedLane s p := fun _ => rfl
  simp only [sampleTaken, State.setPort_port, if_true, h, State.setPort_again, lane]
  exact ⟨fun hn => by rw [hn], fun l hl => by rw [hl]⟩

/-- A jump leaves a gap pending when its channel is in one of the lane's two sets (R57). -/
theorem Assembler.take_eq (e : LaneEntry) (x : Sample) (a : Assembler) : a.take e x =
    { raw := a.raw.set x.chan (some x.raw), fresh := a.fresh.set x.chan true, overload := a.overload.set x.chan x.overload,
      gapPending := a.gapPending || (x.jump && (e.sumSet.getLsbD x.chan.val || e.commitSet.getLsbD x.chan.val)) } := by
  rw [Assembler.take, BitVec.getLsbD_or]

/-- A sample outside the commit set, or that finds a summation channel without a value, commits nothing (R59). -/
theorem commits_false {e : LaneEntry} {x : Sample} {a : Assembler}
    (h : e.commitSet.getLsbD x.chan.val = false
      ∨ ∃ k : Chan, k ≠ x.chan ∧ e.sumSet.getLsbD k.val = true ∧ a.raw[k] = none) :
    commits e x.chan (a.take e x) = false := by
  unfold commits
  rcases h with h | ⟨k, hk, hsum, hraw⟩
  · rw [h]; rfl
  · have empty : (a.take e x).raw[k] = none := by
      rw [← hraw]
      exact Vector.getElem_set_ne x.chan.isLt k.isLt fun e => hk (Fin.ext e.symm)
    have summed : k ∈ chansOf e.sumSet := by simp [chansOf, mem_allChans, hsum]
    rw [Bool.and_eq_false_iff]
    exact .inr (List.all_eq_false.mpr ⟨k, summed, by simp [empty]⟩)

theorem takeSample_notCommitted {l : LaneIx} {x : Sample} {s : State}
    (h : (s.lane l).commitSet.getLsbD x.chan.val = false
      ∨ ∃ k : Chan, k ≠ x.chan ∧ (s.lane l).sumSet.getLsbD k.val = true ∧ (s.assembler l).raw[k] = none) :
    takeSample l x s = s.setAssembler l ((s.assembler l).take (s.lane l) x) := by
  simp only [takeSample, commits_false h, Bool.false_eq_true, if_false]

/-- Settles O35: the port takes the frame's marks and its sequence, and the mapped lane the sample, which commits nothing. -/
theorem sampleUpdatesBuffer : Obligations.SampleUpdatesBuffer := by
  rintro s p c sq v ovl jump y hr hl hin hw hlow hjump rfl
  have hj : isJump (s.port p).expected[c] sq = jump := by rw [Bool.eq_iff_iff, isJump_iff, hjump]
  obtain ⟨unmapped, mapped⟩ := sampleTaken_setPort (s := s) (p := p) (x := (s.port p).validFrame s.clock) c sq v ovl hl hj
  have taken : exec (.sampleFrame p (linkRxOf (sampleFields c sq v ovl))) s =
      .next (sampleTaken p c sq v ovl (s.setPort p ((s.port p).validFrame s.clock))) := by
    refine (live_running _ hr).trans (congrArg _ ((linkReceive_valid _ (by simp [hl]) hin (beforeBreakEnd_false hw hlow)).trans ?_))
    rw [linkUse_sample]
    rfl
  rw [taken]
  have port : ((s.port p).validFrame s.clock).track c sq =
      { s.port p with
        consecutiveBad := 0, lastValid := some s.clock, silenceEnd := some (s.clock + 200#32),
        expected := (s.port p).expected.set c (some (sq + 1)),
        jumpCount := if jump then min ((s.port p).jumpCount + 1) 65535 else (s.port p).jumpCount } := by
    rw [Port.validFrame_streaming _ hl, ← hj]; rfl
  rw [port] at unmapped mapped
  refine ⟨fun hn => congrArg _ (unmapped hn), fun l hm hc => congrArg _ ((mapped l hm).trans ?_)⟩
  refine (takeSample_notCommitted ?_).trans ?_
  · exact hc
  · rw [Assembler.take_eq]; rfl

end Sys2Proof.Machine
end

section
/-! PROOFS. What the events other than the writers of a table keep of the tables, and of the ZEROs in flight (R41, R43, R44, R73). -/

namespace Sys2Proof.Machine

/-- What an event that writes no table keeps: the lane map, the profiles and the line settings, and of each ZERO in flight its counts,
unless it ends. -/
structure TablesKept (s t : State) : Prop where
  laneMap  : t.laneMap = s.laneMap
  profiles : t.profiles = s.profiles
  line     : t.line = s.line
  zeros    : ∀ l, t.zero l = s.zero l ∨ t.zero l = none

namespace TablesKept

/-- A step that writes neither a table nor a ZERO keeps the tables. -/
theorem of_fields {s t : State} (laneMap : t.laneMap = s.laneMap) (profiles : t.profiles = s.profiles) (line : t.line = s.line)
    (zeros : t.zeros = s.zeros) : TablesKept s t :=
  ⟨laneMap, profiles, line, fun l => .inl (by rw [State.zero, zeros, State.zero])⟩

theorem refl (s : State) : TablesKept s s := .of_fields rfl rfl rfl rfl

theorem trans {a b c : State} (h : TablesKept a b) (k : TablesKept b c) : TablesKept a c :=
  ⟨k.laneMap.trans h.laneMap, k.profiles.trans h.profiles, k.line.trans h.line, fun l =>
    (k.zeros l).elim (fun e => (h.zeros l).imp e.trans e.trans) .inr⟩

theorem forLanes {f : LaneIx → State → State} (h : ∀ l t, TablesKept t (f l t)) (ls : List LaneIx) (s : State) :
    TablesKept s (forLanes ls f s) := forLanes_induct (P := TablesKept s) ls (.refl s) fun l _ t ht => ht.trans (h l t)

theorem forPorts {f : PortIx → State → State} (h : ∀ p t, TablesKept t (f p t)) (ps : List PortIx) (s : State) :
    TablesKept s (forPorts ps f s) := forPorts_induct (P := TablesKept s) ps (.refl s) fun p _ t ht => ht.trans (h p t)

theorem onlyRecords {s t : State} (h : OnlyRecords s t) : TablesKept s t := .of_fields h.laneMap h.profiles h.line h.zeros

theorem verdictFrame {s t : State} (h : VerdictFrame s t) : TablesKept s t := .of_fields h.laneMap h.profiles h.line h.zeros

theorem writesAttempt {s t : State} (h : WritesAttempt s t) : TablesKept s t := by
  rw [h]; exact .of_fields rfl rfl rfl rfl

/-! ### The shared operations -/

theorem place (k : EventKind) (l : Option LaneIx) (a : Nat) (v : BitVec 32) (s : State) : TablesKept s (place k l a v s) :=
  .of_fields rfl rfl rfl rfl

theorem changeRecord (id : Nat) (f : Record → Record) (s : State) : TablesKept s (changeRecord id f s) :=
  .onlyRecords (.changeRecord id f s)

theorem setPort (s : State) (p : PortIx) (x : Port) : TablesKept s (s.setPort p x) := .of_fields rfl rfl rfl rfl

theorem setDetector (s : State) (l : LaneIx) (d : Detector) : TablesKept s (s.setDetector l d) := .of_fields rfl rfl rfl rfl

theorem mapDetectors (s : State) (ls : List LaneIx) (f : Detector → Detector) : TablesKept s (s.mapDetectors ls f) :=
  .of_fields rfl rfl rfl rfl

theorem mapRings (s : State) (ls : List LaneIx) (f : Ring → Ring) : TablesKept s (s.mapRings ls f) := .of_fields rfl rfl rfl rfl

theorem setSeq (s : State) (x : Sequencer) : TablesKept s { s with seq := x } := .of_fields rfl rfl rfl rfl

theorem setAssembler (s : State) (l : LaneIx) (a : Assembler) : TablesKept s (s.setAssembler l a) := .of_fields rfl rfl rfl rfl

/-- A ZERO that ends keeps the tables (R75 to R78). -/
theorem endZero (s : State) (l : LaneIx) : TablesKept s (s.setZero l none) := by
  refine ⟨rfl, rfl, rfl, fun k => ?_⟩
  rw [State.setZero_zero]
  split
  · exact .inr rfl
  · exact .inl rfl

/-! ### The verdict unit (R139 to R147) -/

theorem lampOn (l : LaneIx) (s : State) : TablesKept s (lampOn l s) := .verdictFrame (.lampOn l s)

theorem lampOff (p : PortIx) (s : State) : TablesKept s (lampOff p s) := by
  unfold Machine.lampOff
  split
  · exact .setPort s p _
  · exact .refl s

theorem pulseRequest (manual : Bool) (id : Nat) (s : State) : TablesKept s (pulseRequest manual id s) := .of_fields rfl rfl rfl rfl

theorem autoRecall (s : State) : TablesKept s (autoRecall s) := by
  unfold Machine.autoRecall
  split
  · exact .refl s
  · split
    · exact (changeRecord _ _ s).trans (.pulseRequest _ _ _)
    · exact .refl s

theorem falseActs (l : LaneIx) (rt : Option Int) (s : State) : TablesKept s (falseActs l rt s) := by
  unfold Machine.falseActs
  split
  · exact .refl s
  · have placed := fun a v => place .falseStart (some l) a v s
    simp only
    split
    · exact (placed _ _).trans ((lampOn l _).trans (autoRecall _))
    · exact placed _ _

theorem reportJudge (l : LaneIx) (onset : Time) (rt : Int) (f : LaneFlags) (s : State) :
    TablesKept s (reportJudge l onset rt f s) := by
  unfold Machine.reportJudge
  split
  · exact .refl s
  · split
    · split
      · exact (changeRecord _ _ s).trans (falseActs _ _ _)
      · exact changeRecord _ _ s
    · exact .onlyRecords (.reportFlags l f s)

theorem reportHeld (l : LaneIx) (c : Crossing) (s : State) : TablesKept s (reportHeld l c s) := by
  unfold Machine.reportHeld
  split
  · exact .refl s
  · simp only
    split
    · exact (changeRecord _ _ s).trans (falseActs _ _ _)
    · exact .onlyRecords (.reportFlags _ _ s)

/-! ### The onset detectors (R107 to R129) -/

theorem finalize (l : LaneIx) (s : State) : TablesKept s (finalize l s) :=
  (setDetector s l _).trans (.onlyRecords (.reportBaseline _ _ _ _ _))

theorem captureEntry (l : LaneIx) (e : Entry) (s : State) : TablesKept s (captureEntry l e s) := by
  unfold Machine.captureEntry
  simp only
  split
  · exact (setDetector s l _).trans (finalize l _)
  · exact setDetector s l _

theorem unsteadyTest (l : LaneIx) (e : Entry) (s : State) : TablesKept s (unsteadyTest l e s) := by
  have written := setDetector s l
  unfold Machine.unsteadyTest
  simp only
  split
  · exact .refl s
  · split
    · exact .refl s
    · split
      · split
        · exact (written _).trans (.trans (.onlyRecords (.reportFlags _ _ _)) (place _ _ _ _ _))
        · exact written _
      · exact written _

/-- A crossing confirmed writes the detector, the record and the events, and what a false start brings (R121 to R125). -/
theorem confirm (l : LaneIx) (s : State) : TablesKept s (confirm l s) := by
  unfold Machine.confirm
  simp only
  split
  · next s1 b _ _ =>
    generalize onsetWalk (s.ring l) b.l s1 (s.detector l).runStale (s.detector l).runSat = w
    have fault : TablesKept s (match w.fault with | some i => checkFault l i s | none => s) := by
      split
      · exact place _ _ _ _ s
      · exact .refl s
    split
    · exact (fault.trans (setDetector _ l _)).trans (reportJudge _ _ _ _ _)
    · exact (fault.trans (setDetector _ l _)).trans (place _ _ _ _ _)
  · exact .refl s

theorem countCrossing (l : LaneIx) (d : Detector) (s : State) : TablesKept s (countCrossing l d s) := by
  unfold Machine.countCrossing
  simp only
  split
  · exact (setDetector s l d).trans (confirm l _)
  · exact setDetector s l d

theorem crossingTest (l : LaneIx) (e : Entry) (index : Option Nat) (s : State) : TablesKept s (crossingTest l e index s) := by
  unfold Machine.crossingTest
  simp only
  split
  · exact .refl s
  · split
    · exact countCrossing l _ s
    · exact .refl s

theorem persistenceEntry (l : LaneIx) (e : Entry) (s : State) : TablesKept s (persistenceEntry l e s) := by
  unfold Machine.persistenceEntry
  simp only
  split
  · exact .refl s
  · split
    · exact countCrossing l _ s
    · exact setDetector s l _

/-- An entry offered to a detector keeps the tables, in whatever state the detector is (R105). -/
theorem offerEntry (l : LaneIx) (e : Entry) (index : Option Nat) (s : State) : TablesKept s (offerEntry l e index s) := by
  unfold Machine.offerEntry
  split
  · split
    · exact .refl s
    · exact captureEntry l e s
  · exact (unsteadyTest l e s).trans (crossingTest l e index _)
  · exact persistenceEntry l e s
  · exact .refl s
  · exact .refl s
  · exact .refl s

/-- What a detector does when the shot is fired (R111, R125). -/
theorem shotFired (t0 : Time) (l : LaneIx) (s : State) : TablesKept s (shotFired t0 l s) := by
  have written := setDetector s l
  have unsure := fun d f => (written d).trans (.onlyRecords (.reportUnsure l f _))
  unfold Machine.shotFired
  simp only
  split
  · split
    · exact unsure _ _
    · exact written _
  · exact unsure _ _
  · split
    · exact unsure _ _
    · exact (written _).trans (finalize l _)
  · exact written _
  · exact written _
  · split
    · exact written _
    · exact (written _).trans (reportJudge _ _ _ _ _)

theorem standDetector (l : LaneIx) (s : State) : TablesKept s (standDetector l s) := by
  unfold Machine.standDetector
  split
  · exact reportHeld l _ s
  · exact .refl s

/-! ### The lane link ports (R26 to R40) -/

theorem failZero (l : LaneIx) (reason : BitVec 32) (s : State) : TablesKept s (failZero l reason s) := by
  unfold Machine.failZero
  split
  · exact .refl s
  · exact (endZero s l).trans (place _ _ _ _ _)

theorem linkReset (p : PortIx) (lane : Option LaneIx) (s : State) : TablesKept s (linkReset p lane s) := by
  unfold Machine.linkReset
  cases lane with
  | none => exact .setPort s p _
  | some l =>
    have reset := (setAssembler s l .cleared).trans (setPort _ p ((s.port p).linkReset s.clock))
    simp only
    split
    · exact reset.trans (failZero l _ _)
    · exact reset

theorem portStreamEnded (p : PortIx) (lane : Option LaneIx) (s : State) : TablesKept s (portStreamEnded p lane s) :=
  .onlyRecords (.portStreamEnded p lane s)

theorem tableReset (p : PortIx) (before lane : Option LaneIx) (s : State) : TablesKept s (tableReset p before lane s) := by
  unfold Machine.tableReset
  split
  · exact (portStreamEnded p before s).trans (linkReset p lane _)
  · exact .refl s

theorem enterLost (p : PortIx) (s : State) : TablesKept s (enterLost p s) :=
  ((place _ _ _ _ s).trans (portStreamEnded p _ _)).trans (linkReset p _ _)

theorem enterAbsent (p : PortIx) (s : State) : TablesKept s (enterAbsent p s) := by
  have notice : TablesKept s (if (s.port p).link = .streaming
      then Machine.portStreamEnded p (mappedLane s p) (linkEvent .linkLost p s) else s) := by
    split
    · exact (place _ _ _ _ s).trans (portStreamEnded p _ _)
    · exact .refl s
  unfold Machine.enterAbsent
  simp only
  generalize (if (s.port p).link = .streaming then _ else s) = t at notice ⊢
  cases mappedLane s p with
  | none => exact notice.trans (setPort t p _)
  | some l =>
    have cleared := (notice.trans (setAssembler t l .cleared)).trans (setPort _ p (t.port p).enterAbsent)
    simp only
    split
    · exact cleared.trans (failZero l _ _)
    · exact cleared

theorem enterStreaming (p : PortIx) (s : State) : TablesKept s (enterStreaming p s) := .of_fields rfl rfl rfl rfl

theorem completeHello (p : PortIx) (s : State) : TablesKept s (completeHello p s) := by
  unfold Machine.completeHello
  split
  · exact (setPort s p _).trans (enterStreaming p _)
  · exact .refl s

theorem silenceEndStep (p : PortIx) (s : State) : TablesKept s (silenceEndStep p s) := by
  unfold Machine.silenceEndStep
  split
  · exact enterLost p s
  · exact .refl s

theorem helloWaitEndStep (p : PortIx) (s : State) : TablesKept s (helloWaitEndStep p s) := by
  unfold Machine.helloWaitEndStep
  split
  · exact linkReset p _ s
  · exact .refl s

theorem presenceActiveStep (p : PortIx) (s : State) : TablesKept s (presenceActiveStep p s) := by
  unfold Machine.presenceActiveStep
  simp only
  split
  · split
    · exact (setPort s p _).trans (linkReset p _ _)
    · exact setPort s p _
  · exact .refl s

theorem presenceInactiveStep (p : PortIx) (s : State) : TablesKept s (presenceInactiveStep p s) := by
  unfold Machine.presenceInactiveStep
  simp only
  split
  · split
    · exact (setPort s p _).trans (enterAbsent p _)
    · exact setPort s p _
  · exact .refl s

theorem firstPresence (pins : Pins) (p : PortIx) (s : State) : TablesKept s (firstPresence pins p s) := by
  unfold Machine.firstPresence
  simp only
  split
  · exact (setPort s p _).trans (linkReset p _ _)
  · exact setPort s p _

theorem outboundFrameSentStep (p : PortIx) (s : State) : TablesKept s (outboundFrameSentStep p s) := by
  unfold Machine.outboundFrameSentStep
  split
  · exact setPort s p _
  · exact .refl s

theorem breakEndStep (p : PortIx) (s : State) : TablesKept s (breakEndStep p s) := by
  unfold Machine.breakEndStep
  split
  · exact setPort s p _
  · exact .refl s

theorem zeroTimeoutStep (l : LaneIx) (s : State) : TablesKept s (zeroTimeoutStep l s) := by
  unfold Machine.zeroTimeoutStep
  split
  · exact .refl s
  · split
    · exact failZero l _ s
    · exact .refl s

/-! ### Link frames but the valid sample (R21, R22, R30, R33) -/

theorem badFrame (parity : Bool) (p : PortIx) (s : State) : TablesKept s (badFrame parity p s) := by
  rw [badFrame_eq]
  split
  · exact (setPort s p _).trans (enterLost p _)
  · exact setPort s p _

theorem frameCut (p : PortIx) (error early : Bool) (s : State) : TablesKept s (frameCut p error early s) := by
  unfold Machine.frameCut
  split
  · exact .refl s
  · exact badFrame error p s

theorem helloTaken (p : PortIx) (channels : Nat) (s : State) : TablesKept s (helloTaken p channels s) := by
  have written := setPort s p
  unfold Machine.helloTaken
  simp only
  split
  · split
    · exact (written _).trans (setPort _ p _)
    · exact (written _).trans (enterStreaming p _)
  · split
    · split
      · exact enterLost p s
      · exact .refl s
    · exact .refl s
  · exact .refl s
  · exact .refl s

theorem aliveTaken (p : PortIx) (s : State) : TablesKept s (aliveTaken p s) := by
  unfold Machine.aliveTaken
  simp only
  split
  · exact setPort s p _
  · exact .refl s

/-! ### The pistol and the attempt (R5 to R8, R88 to R98) -/

theorem startAttempt (te : Time) (r : Record) (s : State) : TablesKept s (startAttempt te r s) := by
  unfold Machine.startAttempt
  refine .trans ?_ (.forLanes (shotFired te) r.lanes _)
  exact (changeRecord r.id _ s).trans (.of_fields rfl rfl rfl rfl)

theorem recallShot (te : Time) (r : Record) (s : State) : TablesKept s (recallShot te r s) :=
  (changeRecord r.id _ s).trans (place _ _ _ _ _)

/-- Whatever an accepted shot means, it keeps the tables (R93 to R95). -/
theorem shotMeaning (te : Time) (s : State) : TablesKept s (shotMeaning te s) := by
  unfold Machine.shotMeaning
  split
  · split
    · split
      · exact startAttempt _ _ s
      · exact place _ _ _ _ s
    · exact recallShot _ _ s
    · exact place _ _ _ _ s
  · split
    · exact recallShot _ _ s
    · exact place _ _ _ _ s

theorem pistolEdgeStep (s : State) : TablesKept s (pistolEdgeStep s) := by
  unfold Machine.pistolEdgeStep; split <;> exact .of_fields rfl rfl rfl rfl

theorem shotAcceptedStep (s : State) : TablesKept s (shotAcceptedStep s) := by
  unfold Machine.shotAcceptedStep
  split
  · split
    · exact .trans (b := s.pistolHeld) (.of_fields rfl rfl rfl rfl) ((shotMeaning _ _).trans (.of_fields rfl rfl rfl rfl))
    · exact .refl s
  · exact .refl s

theorem glitchStep (s : State) : TablesKept s (glitchStep s) := by
  unfold Machine.glitchStep
  split
  · split <;> exact .of_fields rfl rfl rfl rfl
  · exact .refl s

theorem pistolHoldEndStep (s : State) : TablesKept s (pistolHoldEndStep s) := by
  unfold Machine.pistolHoldEndStep; split <;> exact .of_fields rfl rfl rfl rfl

/-- STAND, in the steps of R96. -/
theorem standClose (r : Record) (s : State) : TablesKept s (standClose r s) := by
  unfold Machine.standClose
  refine .trans (.trans ?_ (mapRings _ _ _)) (place _ _ _ _ _)
  refine .trans (.trans ?_ (setSeq _ _)) (changeRecord _ _ _)
  exact ((forLanes standDetector r.lanes s).trans (changeRecord r.id Record.voidPending _)).trans (mapDetectors _ _ _)

theorem setAccepted (r : Record) (s : State) : TablesKept s (setAccepted r s) := by
  have told : ∀ x, TablesKept s (({ Machine.changeRecord r.id (fun r => { r with state := .set }) s with seq := x }).mapDetectors r.lanes
      Detector.settle) := fun x => ((changeRecord _ _ s).trans (setSeq _ x)).trans (mapDetectors _ _ _)
  unfold Machine.setAccepted
  simp only
  split
  · exact (told _).trans (mapDetectors _ _ _)
  · exact told _

theorem removeOldest (s : State) : TablesKept s (removeOldest s) := by
  unfold Machine.removeOldest
  split
  · split
    · rw [notice_eq]; exact .of_fields rfl rfl rfl rfl
    · exact .refl s
  · exact .refl s

theorem marksLink (l : LaneIx) (s : State) : TablesKept s (marksLink l s) := by
  unfold Machine.marksLink
  split
  · exact .refl s
  · exact .onlyRecords (.streamEnded l s)

/-- MARKS, in the steps of R88: of the tables and the ZEROs it touches only the ZEROs that it ends (R78). -/
theorem marksAccepted (heat : Nat) (lanes : List LaneIx) (s : State) : TablesKept s (marksAccepted heat lanes s) := by
  have release : ∀ t, TablesKept t (releaseRings t) := fun _ => .of_fields rfl rfl rfl rfl
  unfold Machine.marksAccepted
  refine .trans (.trans ?_ (mapDetectors _ lanes _)) (.forLanes marksLink lanes _)
  refine .trans (.trans ?_ (release _)) (.forPorts lampOff allPorts _)
  exact ((removeOldest s).trans (setSeq _ _)).trans (.forLanes (fun l => failZero l _) lanes _)

/-! ### The store port and the host line -/

/-- A load that ends with the tables in force keeps them (R192). -/
theorem endLoad_none (outcome : StoreState) (marker : Option Nat) (s : State) : TablesKept s (endLoad outcome none marker s) := by
  unfold endLoad
  refine .trans ?_ (.forPorts completeHello allPorts _)
  exact .of_fields rfl rfl rfl rfl

theorem loadDeadlineStep (s : State) : TablesKept s (loadDeadlineStep s) := by
  unfold Machine.loadDeadlineStep
  split
  · exact endLoad_none _ _ s
  · exact .refl s

theorem loadAddressStep (s : State) : TablesKept s (loadAddressStep s) := by
  unfold Machine.loadAddressStep; split <;> exact .of_fields rfl rfl rfl rfl

theorem saveTakenStep (s : State) : TablesKept s (saveTakenStep s) := by
  unfold Machine.saveTakenStep; split <;> exact .of_fields rfl rfl rfl rfl

theorem saveStoredStep (s : State) : TablesKept s (saveStoredStep s) := by
  unfold Machine.saveStoredStep
  split
  · split
    · exact .of_fields rfl rfl rfl rfl
    · split <;> exact .of_fields rfl rfl rfl rfl
  · exact .refl s

theorem saveDeadlineStep (s : State) : TablesKept s (saveDeadlineStep s) := by
  unfold Machine.saveDeadlineStep
  split
  · split <;> exact .of_fields rfl rfl rfl rfl
  · exact .refl s

theorem beginSave (image : List Byte) (s : State) : TablesKept s (beginSave image s) := by
  unfold Machine.beginSave; split <;> exact .of_fields rfl rfl rfl rfl

/-! ### A tick -/

theorem takePistol (s : State) : TablesKept s (takePistol s) :=
  (pistolEdgeStep s).trans ((shotAcceptedStep _).trans ((glitchStep _).trans (pistolHoldEndStep _)))

theorem takeLinks (s : State) : TablesKept s (takeLinks s) :=
  ((forPorts (fun p t => (presenceActiveStep p t).trans (presenceInactiveStep p _)) allPorts s).trans
    (forPorts breakEndStep allPorts _)).trans ((forPorts silenceEndStep allPorts _).trans (forPorts helloWaitEndStep allPorts _))

theorem recallPulseEndStep (s : State) : TablesKept s (recallPulseEndStep s) := by
  unfold Machine.recallPulseEndStep; split <;> exact .of_fields rfl rfl rfl rfl

theorem takeTimers (s : State) : TablesKept s (takeTimers s) :=
  ((recallPulseEndStep s).trans (forLanes zeroTimeoutStep allLanes _)).trans (.writesAttempt (takeAttempt_spec _).1)

/-- Everything that a TICK takes but the reply keeps the tables (entry 4). -/
theorem takeEvents (s : State) : TablesKept s (takeEvents s) :=
  (((takePistol s).trans (takeLinks _)).trans (takeTimers _)).trans ((loadDeadlineStep _).trans (saveDeadlineStep _))

theorem firstTick (pins : Pins) (s : State) : TablesKept s (firstTick pins s) := by
  have load : ∀ t, TablesKept t (beginLoad t) := fun _ => .of_fields rfl rfl rfl rfl
  unfold Machine.firstTick
  refine .trans (.trans ?_ (forPorts (firstPresence pins) allPorts _)) (load _)
  exact .of_fields rfl rfl rfl rfl

theorem nextTick (pins : Pins) (upsets : List (LaneIx × Nat)) (s : State) : TablesKept s (nextTick pins upsets s) := by
  unfold Machine.nextTick
  split
  · rw [(applyUpsets_spec upsets (advance pins s)).1]; exact .of_fields rfl rfl rfl rfl
  · exact firstTick pins s

end TablesKept

end Sys2Proof.Machine
end

section
/-! PROOFS. The ranges of the tables, and the fields that are read (R41, R43, R44, R75, R198). -/

namespace Sys2Proof.Machine

/-! ### What is read lies within its range (R198) -/

theorem rdInt16_range (h l : Byte) : -32768 ≤ rdInt16 h l ∧ rdInt16 h l ≤ 32767 := by
  have lower := BitVec.le_toInt (h ++ l)
  have upper := BitVec.toInt_lt (x := h ++ l)
  simp only [rdInt16]
  omega

theorem maskOfByte_ne_zero {b : Byte} {m : BitVec 4} (h : maskOfByte b = some m) : m ≠ 0#4 := by
  have range : ∀ b : Byte, maskOfByte b ≠ some 0#4 := by decide +kernel
  rintro rfl
  exact range b h

theorem gainOfBytes_some {h l : Byte} {g : Nat} (e : gainOfBytes h l = some g) : rd16 h l = g ∧ 1 ≤ g ∧ g ≤ 16383 := by
  unfold gainOfBytes at e
  split at e
  · next range => cases e; exact ⟨rfl, range⟩
  · cases e

theorem inRange_some {lo hi n m : Nat} (e : inRange lo hi n = some m) : n = m ∧ lo ≤ m ∧ m ≤ hi := by
  unfold inRange at e
  split at e
  · next range => cases e; exact ⟨rfl, range⟩
  · cases e

/-- A property of the four places of a vector written out. -/
theorem forall_chan {α : Type} {P : α → Prop} {a b c d : α} (ha : P a) (hb : P b) (hc : P c) (hd : P d) (i : Chan) :
    P (#v[a, b, c, d] : Vector α 4)[i] := by
  fin_cases i
  · exact ha
  · exact hb
  · exact hc
  · exact hd

/-- A lane entry that is read has its fields within their ranges (R41, R198). -/
theorem laneEntryOfBytes_ok {bs : List Byte} {e : LaneEntry} (h : laneEntryOfBytes bs = some e) : e.Ok := by
  unfold laneEntryOfBytes at h
  split at h
  · split at h
    · next hsum hcommit hg0 hg1 hg2 hg3 _ _ =>
      cases h
      exact ⟨maskOfByte_ne_zero hsum, maskOfByte_ne_zero hcommit,
        forall_chan (P := fun g => 1 ≤ g ∧ g ≤ 16383) (gainOfBytes_some hg0).2 (gainOfBytes_some hg1).2 (gainOfBytes_some hg2).2
          (gainOfBytes_some hg3).2,
        forall_chan (P := fun z => -32768 ≤ z ∧ z ≤ 32767) (rdInt16_range _ _) (rdInt16_range _ _) (rdInt16_range _ _) (rdInt16_range _ _),
        Nat.le_of_lt_succ (BitVec.isLt _)⟩
    · cases h
  · cases h

/-- A profile that is read has its fields within their ranges (R43, R198). -/
theorem profileOfBytes_ok {bs : List Byte} {p : Profile} (h : profileOfBytes bs = some p) : p.Ok := by
  unfold profileOfBytes at h
  split at h
  · split at h
    · next ht hk hp _ => cases h; exact ⟨(inRange_some ht).2, (inRange_some hk).2, (inRange_some hp).2⟩
    · cases h
  · cases h

/-- Line settings that are read have their fields within their ranges (R44, R198). -/
theorem lineOfBytes_ok {bs : List Byte} {c : LineSettings} (h : lineOfBytes bs = some c) : c.Ok := by
  unfold lineOfBytes at h
  split at h
  · split at h
    · next hr hw hs hq hp _ _ _ =>
      cases h
      exact ⟨(inRange_some hr).2.2, (inRange_some hw).2, (inRange_some hs).2.2, (inRange_some hq).2, (inRange_some hp).2⟩
    · cases h
  · cases h

/-! ### The factory defaults (R41, R43, R44) -/

theorem LaneEntry.Ok.factory (l : LaneIx) : (factoryLane l).Ok :=
  ⟨by simp [factoryLane], by simp [factoryLane], fun c => by simp [factoryLane], fun c => by simp [factoryLane], Nat.zero_le 255⟩

theorem factoryLaneMap_lane (l : LaneIx) : factoryLaneMap[l] = factoryLane l := by fin_cases l <;> rfl

theorem factoryProfiles_profile (n : Fin 4) : factoryProfiles[n] = factoryProfile := by fin_cases n <;> rfl

theorem factoryLane_port {l : LaneIx} {p : PortIx} (h : (factoryLane l).port = some p) : p.val = l.val := by
  cases h; rfl

/-! ### The invariant under the writers of a table -/

namespace TablesInv

/-- What writes no table and no ZERO but to end it keeps the ranges. -/
theorem kept {s t : State} (h : TablesInv s) (k : TablesKept s t) : TablesInv t := by
  have lane : ∀ l, t.lane l = s.lane l := fun l => by rw [State.lane, k.laneMap, State.lane]
  refine ⟨fun l => lane l ▸ h.lanes l, fun n => ?_, k.line ▸ h.line, fun l j p hl hj => h.distinct l j p (lane l ▸ hl) (lane j ▸ hj),
    fun l z hz => ?_⟩
  · rw [State.profile, k.profiles]; exact h.profiles n
  · rcases k.zeros l with e | e
    · exact h.zeros l z (e ▸ hz)
    · rw [e] at hz; cases hz

/-- An entry within its ranges, its port free, may be written (R46). -/
theorem setLane {s : State} (h : TablesInv s) {l : LaneIx} {e : LaneEntry} (ok : e.Ok)
    (free : ∀ k p, k ≠ l → e.port = some p → (s.lane k).port ≠ some p) : TablesInv (s.setLane l e) := by
  refine ⟨fun k => ?_, h.profiles, h.line, fun j k p => ?_, h.zeros⟩
  · rw [State.setLane_lane]
    split
    · exact ok
    · exact h.lanes k
  · rw [State.setLane_lane, State.setLane_lane]
    split
    · next hj =>
      split
      · next hk => exact fun _ _ => hj.symm.trans hk
      · next hk => exact fun hp hq => absurd hq (free k p (Ne.symm hk) hp)
    · next hj =>
      split
      · exact fun hp hq => absurd hp (free j p (Ne.symm hj) hq)
      · exact h.distinct j k p

theorem setProfile {s : State} (h : TablesInv s) {n : Fin 4} {p : Profile} (ok : p.Ok) : TablesInv (s.setProfile n p) := by
  refine ⟨h.lanes, fun k => ?_, h.line, h.distinct, h.zeros⟩
  rw [State.setProfile_profile]
  split
  · exact ok
  · exact h.profiles k

theorem setZero {s : State} (h : TablesInv s) {l : LaneIx} {z : ZeroRun} (ok : z.Ok) : TablesInv (s.setZero l (some z)) := by
  refine ⟨h.lanes, h.profiles, h.line, h.distinct, fun k y hy => ?_⟩
  rw [State.setZero_zero] at hy
  split at hy
  · cases hy; exact ok
  · exact h.zeros k y hy

/-- A reset puts the tables at the factory defaults, which lie within their ranges, each lane on a port of its own (R41, R43, R44, R196). -/
theorem afterReset (pins : Pins) (held : Bool) (pending : List Instr) : TablesInv (State.afterReset pins held pending) := by
  have lane : ∀ l, (State.afterReset pins held pending).lane l = factoryLane l := factoryLaneMap_lane
  refine ⟨fun l => lane l ▸ .factory l, fun n => ?_, ?_, fun l k p hl hk => ?_, fun l z hz => ?_⟩
  · rw [show (State.afterReset pins held pending).profile n = factoryProfile from factoryProfiles_profile n]
    exact ⟨by decide, by decide, by decide⟩
  · show factoryLine.Ok
    exact ⟨by decide, by decide, by decide, by decide, by decide⟩
  · rw [lane] at hl hk
    exact Fin.ext ((factoryLane_port hl).symm.trans (factoryLane_port hk))
  · rw [State.zero, State.afterReset, Fin.getElem_fin, Vector.getElem_replicate] at hz; cases hz

end TablesInv

/-! ### ZERO (R73 to R75) -/

theorem ZeroRun.Ok.start (now : Time) : (zeroStart now).Ok :=
  ⟨by simp [zeroStart], fun c => by simp [zeroStart]⟩

/-- The channel sums after one more commit are of one more raw value (R74). -/
theorem zeroSums_range {sumSet : BitVec 4} {a : Assembler} {sums : Vector Int 4} {n : Nat}
    (h : ∀ c : Chan, -32768 * (n : Int) ≤ sums[c] ∧ sums[c] ≤ 32767 * (n : Int)) (c : Chan) :
    -32768 * ((n + 1 : Nat) : Int) ≤ (zeroSums sumSet a sums)[c] ∧ (zeroSums sumSet a sums)[c] ≤ 32767 * ((n + 1 : Nat) : Int) := by
  obtain ⟨lower, upper⟩ := h c
  simp only [Fin.getElem_fin] at lower upper
  simp only [zeroSums, Fin.getElem_fin, Vector.getElem_ofFn]
  split
  · split
    · next v _ =>
      have vLower := BitVec.le_toInt v
      have vUpper := BitVec.toInt_lt (x := v)
      omega
    · omega
  · omega

/-- The mean of 64 raw values lies in the range of an offset (R75). -/
theorem zeroMean_range {sum : Int} (h : -32768 * 64 ≤ sum ∧ sum ≤ 32767 * 64) : -32768 ≤ zeroMean sum ∧ zeroMean sum ≤ 32767 := by
  unfold zeroMean; omega

/-- The offsets that a ZERO writes are within their range (R75). -/
theorem LaneEntry.Ok.zeroed {e : LaneEntry} (h : e.Ok) {sums : Vector Int 4}
    (hs : ∀ c : Chan, -32768 * 64 ≤ sums[c] ∧ sums[c] ≤ 32767 * 64) : ({ e with zeros := zeroOffsets e sums } : LaneEntry).Ok := by
  obtain ⟨sum, commit, gains, zeros, latency⟩ := h
  refine ⟨sum, commit, gains, fun c => ?_, latency⟩
  simp only [zeroOffsets, Fin.getElem_fin, Vector.getElem_ofFn]
  split
  · exact zeroMean_range (hs c)
  · exact zeros c

/-- A commit offered to a lane's ZERO keeps the ranges: one more value counted, or the 64 values' means written (R74, R75). -/
theorem TablesInv.zeroCommit {s : State} (h : TablesInv s) (l : LaneIx) : TablesInv (zeroCommit l s) := by
  unfold Machine.zeroCommit
  split
  · exact h
  · next z hz =>
    obtain ⟨count, sums⟩ := h.zeros l z hz
    have sums' := zeroSums_range (sumSet := (s.lane l).sumSet) (a := s.assembler l) sums
    simp only
    split
    · next h64 =>
      rw [h64] at sums'
      refine .kept (.setLane h ((h.lanes l).zeroed sums') fun k p hk hp hp' => hk (h.distinct k l p hp' hp)) ?_
      exact (TablesKept.endZero _ l).trans (.place _ _ _ _ _)
    · exact h.setZero ⟨by simp only; omega, sums'⟩

end Sys2Proof.Machine
end

section
/-! PROOFS. Every command keeps the tables within their ranges, block by block (R41, R43, R44, R46, R75, R191). -/

namespace Sys2Proof.Machine

namespace TablesInv

/-! ### Samples and link frames (R21 to R25, R57 to R60) -/

theorem commit {s : State} (h : TablesInv s) (l : LaneIx) : TablesInv (commit l s) := by
  have written : TablesInv (s.setRing l ((s.ring l).write (committedEntry l s))) := h.kept (.of_fields rfl rfl rfl rfl)
  exact ((written.kept (.offerEntry l _ _ _)).zeroCommit l).kept (.setAssembler _ l _)

theorem takeSample {s : State} (h : TablesInv s) (l : LaneIx) (x : Sample) : TablesInv (takeSample l x s) := by
  have taken := h.kept (.setAssembler s l ((s.assembler l).take (s.lane l) x))
  unfold Machine.takeSample
  simp only
  split
  · exact taken.commit l
  · exact taken

theorem sampleTaken {s : State} (h : TablesInv s) (p : PortIx) (c : Chan) (seq : BitVec 4) (raw : BitVec 16) (overload : Bool) :
    TablesInv (sampleTaken p c seq raw overload s) := by
  unfold Machine.sampleTaken
  simp only
  split
  · split
    · exact (h.kept (.setPort s p _)).takeSample _ _
    · exact h.kept (.setPort s p _)
  · exact h


theorem useFrame {s : State} (h : TablesInv s) (p : PortIx) (u : LinkUse) : TablesInv (useFrame p u s) := by
  cases u with
  | sample c seq raw overload => exact h.sampleTaken p c seq raw overload
  | hello channels => exact h.kept (.helloTaken p channels s)
  | alive => exact h.kept (.aliveTaken p s)
  | discarded => exact h

theorem frameComplete {s : State} (h : TablesInv s) (p : PortIx) (error early : Bool) (b0 b1 b2 b3 : Byte) :
    TablesInv (frameComplete p error early b0 b1 b2 b3 s) := by
  unfold Machine.frameComplete
  split
  · exact h
  · split
    · exact h.kept (.badFrame true p s)
    · split
      · exact (h.kept (.setPort s p _)).useFrame p _
      · exact h.kept (.badFrame false p s)

theorem linkByte {s : State} (h : TablesInv s) (p : PortIx) (early : Bool) (b : RxByte) : TablesInv (linkByte p early b s) := by
  have emptied : TablesInv (setInbound p inboundEmpty s) := h.kept (.setPort s p _)
  unfold Machine.linkByte
  simp only
  split
  · exact h
  · split
    · split
      · exact h.kept (.setPort s p _)
      · exact (emptied.kept (.frameCut p _ _ _)).kept (.setPort _ p _)
    · split
      · exact h
      · exact emptied.frameComplete p _ _ _ _ _ _
      · exact h.kept (.setPort s p _)

theorem linkReceive {s : State} (h : TablesInv s) (p : PortIx) (rx : LinkRx) : TablesInv (linkReceive p rx s) :=
  List.foldlRecOn rx.bytes _ h fun _ ht b _ => ht.linkByte p rx.early b

/-! ### The writers of the tables (R46, R48, R50, R51, R73) -/

end TablesInv

/-- A port that the map holds for no other lane is free (R46). -/
theorem heldByOther_iff {s : State} {l : LaneIx} {o : Option PortIx} :
    heldByOther s l o = true ↔ ∃ k p, k ≠ l ∧ o = some p ∧ (s.lane k).port = some p := by
  cases o with
  | none => simp [heldByOther]
  | some p => simp [heldByOther, mem_allLanes]

namespace TablesKept

theorem laneSetResets (l : LaneIx) (old new : LaneEntry) (s : State) : TablesKept s (laneSetResets l old new s) := by
  unfold Machine.laneSetResets
  simp only
  split
  · split
    · split
      · exact tableReset _ _ _ s
      · exact .refl s
    · exact .refl s
  · have former : TablesKept s (match old.port with | some p => Machine.tableReset p (some l) (some l) s | none => s) := by
      split
      · exact tableReset _ _ _ s
      · exact .refl s
    split
    · exact former.trans (tableReset _ _ _ _)
    · exact former

theorem rateResets (s : State) : TablesKept s (rateResets s) := .forPorts (fun p t => tableReset p _ _ t) allPorts s

theorem traceFaults (l : LaneIx) (read : List (Nat × Slot)) (s : State) : TablesKept s (traceFaults l read s) :=
  List.foldlRecOn (motive := TablesKept s) _ _ (.refl s) fun _ ht _ _ => ht.trans (place _ _ _ _ _)

end TablesKept

namespace TablesInv

theorem lineSetAccepted {s : State} (h : TablesInv s) {c : LineSettings} (ok : c.Ok) : TablesInv (lineSetAccepted c s) := by
  have written : TablesInv { s with line := c, events := attnModeChange s.line.attnMode c.attnMode s.events } :=
    ⟨h.lanes, h.profiles, ok, h.distinct, h.zeros⟩
  unfold Machine.lineSetAccepted
  simp only
  split
  · exact written
  · exact written.kept (.rateResets _)

theorem laneSetServe {s : State} (h : TablesInv s) (payload : List Byte) : TablesInv (laneSetServe payload s).state := by
  unfold Machine.laneSetServe
  split
  · split
    · next l e _ he =>
      split
      · exact h
      · next hfree =>
        split
        · exact h
        · refine (h.setLane (laneEntryOfBytes_ok he) fun k p hk hp hq => hfree ?_).kept (.laneSetResets l _ e _)
          exact heldByOther_iff.mpr ⟨k, p, hk, hp, hq⟩
    · exact h
  · exact h

theorem profileSetServe {s : State} (h : TablesInv s) (payload : List Byte) : TablesInv (profileSetServe payload s).state := by
  unfold Machine.profileSetServe
  split
  · split
    · next he =>
      split
      · exact h
      · exact h.setProfile (profileOfBytes_ok he)
    · exact h
  · exact h

theorem lineSetServe {s : State} (h : TablesInv s) (payload : List Byte) : TablesInv (lineSetServe payload s).state := by
  unfold Machine.lineSetServe
  split
  · exact h
  · next he =>
    split
    · exact h
    · exact h.lineSetAccepted (lineOfBytes_ok he)

theorem zeroServe {s : State} (h : TablesInv s) (payload : List Byte) : TablesInv (zeroServe payload s).state := by
  unfold Machine.zeroServe
  split
  · split
    · exact h
    · iterate 5 (split; · exact h)
      exact h.setZero (.start s.clock)
  · exact h

end TablesInv

/-! ### The other requests -/

namespace TablesKept

theorem statusServe (payload : List Byte) (s : State) : TablesKept s (statusServe payload s).state := by
  unfold Machine.statusServe
  split
  · split
    · show TablesKept s (if _ then _ else _)
      split <;> exact .of_fields rfl rfl rfl rfl
    · exact .refl s
  · exact .refl s

theorem eventsServe (payload : List Byte) (s : State) : TablesKept s (eventsServe payload s).state := by
  unfold Machine.eventsServe
  split
  · split <;> exact .of_fields rfl rfl rfl rfl
  · exact .refl s

theorem portServe (payload : List Byte) (s : State) : TablesKept s (portServe payload s).state := by
  unfold Machine.portServe
  split
  · split
    · show TablesKept s (if _ then _ else _)
      split
      · exact setPort s _ _
      · exact .refl s
    · exact .refl s
  · exact .refl s

theorem laneGetServe (payload : List Byte) (s : State) : TablesKept s (laneGetServe payload s).state := by
  unfold Machine.laneGetServe
  split
  · split <;> exact .refl s
  · exact .refl s

theorem profileGetServe (payload : List Byte) (s : State) : TablesKept s (profileGetServe payload s).state := by
  unfold Machine.profileGetServe
  split
  · split <;> exact .refl s
  · exact .refl s

theorem lineGetServe (payload : List Byte) (s : State) : TablesKept s (lineGetServe payload s).state := by
  unfold Machine.lineGetServe; split <;> exact .refl s

theorem marksRequest (payload : List Byte) (s : State) : TablesKept s (marksRequest payload s).state := by
  unfold Machine.marksRequest
  split
  · split
    · exact .refl s
    · split
      · exact .refl s
      · split
        · exact .refl s
        · exact marksAccepted _ _ s
  · exact .refl s

theorem setRequest (payload : List Byte) (s : State) : TablesKept s (setRequest payload s).state := by
  unfold Machine.setRequest
  split
  · split
    · exact setAccepted _ s
    · exact .refl s
  · exact .refl s
  · exact .refl s

theorem standRequest (payload : List Byte) (s : State) : TablesKept s (standRequest payload s).state := by
  unfold Machine.standRequest
  split
  · split
    · exact standClose _ s
    · exact .refl s
  · exact .refl s
  · exact .refl s

theorem recordRequest (payload : List Byte) (s : State) : TablesKept s (recordRequest payload s).state := by
  unfold Machine.recordRequest
  split
  · split <;> exact .refl s
  · exact .refl s

theorem recallServe (payload : List Byte) (s : State) : TablesKept s (recallServe payload s).state := by
  unfold Machine.recallServe
  split
  · split
    · exact (changeRecord _ _ s).trans (pulseRequest true _ _)
    · exact .refl s
  · exact .refl s

theorem reserveServe (payload : List Byte) (s : State) : TablesKept s (reserveServe payload s).state := by
  unfold Machine.reserveServe
  split
  · split <;> exact .of_fields rfl rfl rfl rfl
  · exact .refl s

theorem ruleServe (payload : List Byte) (s : State) : TablesKept s (ruleServe payload s).state := by
  have cleared : ∀ t, TablesKept t { t with reservation := none } := fun _ => .of_fields rfl rfl rfl rfl
  unfold Machine.ruleServe
  split
  · split
    · split
      · exact .refl s
      · split
        · exact cleared s
        · split
          · exact cleared s
          · split
            · exact .refl s
            · split
              · exact .refl s
              · exact (changeRecord _ _ s).trans (cleared _)
    · exact .refl s
  · exact .refl s

theorem traceServe (payload : List Byte) (s : State) : TablesKept s (traceServe payload s).state := by
  unfold Machine.traceServe
  split
  · split
    · exact .refl s
    · split
      · exact .refl s
      · split
        · exact .refl s
        · split
          · exact .refl s
          · split
            · exact .refl s
            · exact traceFaults _ _ s
  · exact .refl s

theorem saveAccepted (s : State) : TablesKept s (saveAccepted s) := by
  unfold Machine.saveAccepted
  refine .trans ?_ (beginSave _ _)
  exact .of_fields rfl rfl rfl rfl

theorem storeSaveServe (payload : List Byte) (s : State) : TablesKept s (storeSaveServe payload s).state := by
  unfold Machine.storeSaveServe
  split
  · split
    · exact .refl s
    · exact saveAccepted s
  · exact .refl s

theorem restartServe (payload : List Byte) (s : State) : TablesKept s (restartServe payload s).state := by
  unfold Machine.restartServe; split <;> exact .refl s

end TablesKept

namespace TablesInv

/-- Whatever the kind of a request, its owner keeps the ranges (R45, R46, R173). -/
theorem serveKind {s : State} (h : TablesInv s) (k : Kind) (payload : List Byte) : TablesInv (serveKind k payload s).state := by
  cases k with
  | laneSet => exact h.laneSetServe payload
  | profileSet => exact h.profileSetServe payload
  | lineSet => exact h.lineSetServe payload
  | zero => exact h.zeroServe payload
  | status => exact h.kept (.statusServe payload s)
  | events => exact h.kept (.eventsServe payload s)
  | port => exact h.kept (.portServe payload s)
  | laneGet => exact h.kept (.laneGetServe payload s)
  | profileGet => exact h.kept (.profileGetServe payload s)
  | lineGet => exact h.kept (.lineGetServe payload s)
  | marks => exact h.kept (.marksRequest payload s)
  | set => exact h.kept (.setRequest payload s)
  | stand => exact h.kept (.standRequest payload s)
  | record => exact h.kept (.recordRequest payload s)
  | recallRequest => exact h.kept (.recallServe payload s)
  | reserve => exact h.kept (.reserveServe payload s)
  | rule => exact h.kept (.ruleServe payload s)
  | trace => exact h.kept (.traceServe payload s)
  | storeSave => exact h.kept (.storeSaveServe payload s)
  | restart => exact h.kept (.restartServe payload s)

theorem serveRequest {s : State} (h : TablesInv s) (code : Byte) (payload : List Byte) :
    TablesInv (serveRequest code payload s).state := by
  unfold Machine.serveRequest
  split
  · exact h
  · split
    · exact h
    · split
      · exact h
      · exact h.serveKind _ payload

/-! ### The host line (R167 to R178) -/

theorem setHost {s : State} (h : TablesInv s) (x : HostLine) : TablesInv { s with host := x } := h.kept (.of_fields rfl rfl rfl rfl)

theorem doReset (s : State) : TablesInv (doReset s) := afterReset _ _ _

theorem requestTaken {s : State} (h : TablesInv s) (a tag code : Byte) (payload : List Byte) :
    TablesInv (requestTaken a tag code payload s) := by
  unfold Machine.requestTaken
  simp only
  split
  · exact doReset _
  · exact ((h.setHost _).serveRequest code payload).setHost _

theorem receivePlace {s : State} (h : TablesInv s) (frame : List Byte) : TablesInv (receivePlace frame s) := by
  unfold Machine.receivePlace
  split
  · exact h.setHost _
  · split
    · unfold frameEnded
      simp only
      split
      · exact h.requestTaken _ _ _ _
      · exact h.setHost _
    · exact h.setHost _

theorem hostByte {s : State} (h : TablesInv s) (b : HostByte) : TablesInv (hostByte b s) := by
  have rx : ∀ x, TablesInv (setRx x s) := fun _ => h.setHost _
  unfold Machine.hostByte takeHostByte
  split
  · exact h
  · split
    · split
      · exact rx _
      · exact h
    · unfold receiveByte
      split
      · exact h.setHost _
      · split
        · split <;> exact rx _
        · exact h.receivePlace _
    · unfold muteHeaderByte
      split
      · split <;> exact rx _
      · exact rx _
    · unfold muteBodyByte
      split <;> exact rx _

theorem hostBytes {s : State} (h : TablesInv s) (bytes : List HostByte) : TablesInv (hostBytes bytes s) :=
  List.foldlRecOn bytes _ h fun _ ht b _ => ht.hostByte b

theorem quietPassed {s : State} (h : TablesInv s) : TablesInv (quietPassed s) := by
  unfold Machine.quietPassed
  split
  · exact h
  · exact h.setHost _
  · exact h.setHost _
  · exact h.setHost _

theorem requestArrives {s : State} (h : TablesInv s) (code : Byte) (r : Request) : TablesInv (requestArrives code r s) := by
  unfold Machine.requestArrives
  split
  · exact h.requestTaken _ _ _ _
  · exact h.hostBytes _

theorem replyStartStep {s : State} (h : TablesInv s) : TablesInv (replyStartStep s) := by
  unfold Machine.replyStartStep
  split
  · split
    · exact h.setHost _
    · exact h
  · exact h

theorem replyOver {s : State} (h : TablesInv s) : TablesInv (replyOver s) := by
  unfold Machine.replyOver
  simp only
  split
  · exact doReset _
  · exact h.setHost _

theorem replySentStep {s : State} (h : TablesInv s) : TablesInv (replySentStep s) := by
  unfold Machine.replySentStep
  split
  · exact h.replyOver
  · exact h

theorem replyAbandonedStep {s : State} (h : TablesInv s) : TablesInv (replyAbandonedStep s) := by
  unfold Machine.replyAbandonedStep
  split
  · split
    · exact h.replyOver
    · exact h
  · exact h

end TablesInv

/-! ### The start-up load (R191, R192) -/

/-- A working copy of the tables whose fields are within their ranges. -/
structure LoadCopy.Ok (w : LoadCopy) : Prop where
  lanes    : ∀ l : LaneIx, w.laneMap[l].Ok
  profiles : ∀ n : Fin 4, w.profiles[n].Ok
  line     : w.line.Ok

theorem LoadCopy.Ok.start : loadCopyStart.Ok :=
  have defaults := TablesInv.afterReset Config.initialPins false []
  ⟨defaults.lanes, defaults.profiles, defaults.line⟩

/-- A record that is taken keeps the working copy within the ranges (R191). -/
theorem LoadCopy.Ok.take {w v : LoadCopy} (h : w.Ok) {ty : Byte} {fields : List Byte} (e : w.take ty fields = some v) : v.Ok := by
  unfold LoadCopy.take at e
  split at e
  · split at e
    · next hc =>
      split at e
      · cases e
      · cases e; exact ⟨h.lanes, h.profiles, lineOfBytes_ok hc⟩
    · cases e
  · split at e
    · cases e
    · split at e
      · split at e
        · next l x _ hx =>
          split at e
          · cases e
          · cases e
            refine ⟨fun k => ?_, h.profiles, h.line⟩
            simp only [Fin.getElem_fin, Vector.getElem_set]
            split
            · exact laneEntryOfBytes_ok hx
            · exact h.lanes k
        · cases e
      · split at e
        · next n x _ hx =>
          split at e
          · cases e
          · cases e
            refine ⟨h.lanes, fun k => ?_, h.line⟩
            simp only [Fin.getElem_fin, Vector.getElem_set]
            split
            · exact profileOfBytes_ok hx
            · exact h.profiles k
        · cases e

/-- An image is accepted only with its ports distinct (R191). -/
theorem loadEnd_good {all bytes : List Byte} {o m : Nat} {copy w : LoadCopy} (e : loadEnd all o copy bytes = .good w m) :
    w = copy ∧ portsDistinct w.laneMap = true := by
  unfold loadEnd at e
  split at e
  · split at e
    · split at e
      · split at e
        · next h => cases e; exact ⟨rfl, h.2⟩
        · cases e
      · cases e
    · cases e
  · cases e

theorem loadRecords_good {all : List Byte} {w : LoadCopy} {m : Nat} (left : Nat) : ∀ {o : Nat} {copy : LoadCopy} {bytes : List Byte},
    copy.Ok → loadRecords all left o copy bytes = .good w m → w.Ok ∧ portsDistinct w.laneMap = true := by
  induction left with
  | zero =>
    intro o copy bytes h e
    obtain ⟨rfl, distinct⟩ := loadEnd_good e
    exact ⟨h, distinct⟩
  | succ left ih =>
    intro o copy bytes h e
    unfold loadRecords at e
    split at e
    · cases e
    · split at e
      · cases e
      · split at e
        · cases e
        · iterate 3 (split at e; · cases e)
          split at e
          · cases e
          · next taken => exact ih (h.take taken) e

theorem loadFinding_good {all : List Byte} {w : LoadCopy} {m : Nat} (e : loadFinding all = .good w m) :
    w.Ok ∧ portsDistinct w.laneMap = true := by
  unfold loadFinding at e
  split at e
  · cases e
  · split at e
    · cases e
    · split at e
      · cases e
      · exact loadRecords_good _ .start e

theorem portsDistinct_eq {laneMap : Vector LaneEntry 10} (h : portsDistinct laneMap = true) {l k : LaneIx} {p : PortIx}
    (hl : laneMap[l].port = some p) (hk : laneMap[k].port = some p) : l = k := by
  have pair := List.all_eq_true.mp (List.all_eq_true.mp h l (mem_allLanes l)) k (mem_allLanes k)
  simp only [Fin.getElem_fin] at hl hk
  simpa [hl, hk] using pair

namespace TablesInv

/-- The end of a load that has accepted an image puts its tables in force (R192). -/
theorem endLoad_some {s : State} (h : TablesInv s) {w : LoadCopy} (ok : w.Ok) (distinct : portsDistinct w.laneMap = true)
    (outcome : StoreState) (marker : Option Nat) : TablesInv (endLoad outcome (some w) marker s) := by
  have loaded : TablesInv (loadTables (some w) s) :=
    ⟨ok.lanes, ok.profiles, ok.line, fun _ _ _ => portsDistinct_eq distinct, h.zeros⟩
  unfold endLoad
  refine (loaded.kept ?_).kept (.forPorts .completeHello allPorts _)
  exact .of_fields rfl rfl rfl rfl

theorem loadReadStep {s : State} (h : TablesInv s) (taken : Option (Vector Byte 16)) : TablesInv (loadReadStep taken s) := by
  unfold Machine.loadReadStep
  split
  · split
    · exact h.kept (.endLoad_none _ _ s)
    · split
      · exact h.kept (.of_fields rfl rfl rfl rfl)
      · exact h.kept (.endLoad_none _ _ s)
      · next found =>
        obtain ⟨ok, distinct⟩ := loadFinding_good found
        exact h.endLoad_some ok distinct _ _
  · exact h

/-! ### Every command -/

theorem tickStep {s : State} (h : TablesInv s) (pins : Pins) (upsets : List (LaneIx × Nat)) : TablesInv (tickStep pins upsets s) := by
  have due : TablesInv (if s.started then takeDue s else s) := by
    split
    · exact (h.kept (.takeEvents s)).replyAbandonedStep
    · exact h
  exact due.kept (.nextTick pins upsets _)

/-- A command on the running part keeps the ranges when its meaning does; a held part does not change. -/
theorem live {f : State → State} {s t : State} (h : TablesInv s) (hf : TablesInv (f s)) (e : live f s = .next t) : TablesInv t := by
  unfold Machine.live at e
  split at e
  · cases e; exact h
  · cases e; exact hf

/-- A command whose meaning writes no table and starts no ZERO. -/
theorem live_kept {f : State → State} {s t : State} (h : TablesInv s) (hf : TablesKept s (f s)) (e : Machine.live f s = .next t) :
    TablesInv t := h.live (h.kept hf) e

/-- Whatever the command, the state that it answers has its tables within their ranges. -/
theorem exec {c : Instr} {s t : State} (h : TablesInv s) (e : exec c s = .next t) : TablesInv t := by
  cases hr : requestOf c with
  | some request =>
    obtain ⟨code, r⟩ := request
    rw [exec_request hr] at e
    exact h.live (h.requestArrives code r) e
  | none =>
    cases c with
    | reset straps => cases e; exact afterReset _ _ _
    | resetPinAsserted => cases e; exact afterReset _ _ _
    | startUpFirstTick pins =>
      refine h.live_kept ?_ e
      unfold startUpFirstTickStep
      split
      · exact .refl s
      · exact .firstTick pins s
    | tick pins upsets => exact h.live (h.tickStep pins upsets) e
    | requestFrameDropped bytes => exact h.live (h.hostBytes bytes) e
    | frameTimeout bytes => exact h.live (f := fun t => Machine.quietPassed (Machine.hostBytes bytes t)) (h.hostBytes bytes).quietPassed e
    | mutedFrame bytes quiet =>
      refine h.live (f := fun t => if quiet then Machine.quietPassed (Machine.hostBytes bytes t) else Machine.hostBytes bytes t) ?_ e
      split
      · exact (h.hostBytes bytes).quietPassed
      · exact h.hostBytes bytes
    | replyStart => exact h.live h.replyStartStep e
    | replySent => exact h.live h.replySentStep e
    | replyAbandoned2ms => exact h.live h.replyAbandonedStep e
    | pistolEdge => exact h.live_kept (.pistolEdgeStep s) e
    | shotAccepted => exact h.live_kept (.shotAcceptedStep s) e
    | glitch => exact h.live_kept (.glitchStep s) e
    | pistolHoldEnd => exact h.live_kept (.pistolHoldEndStep s) e
    | recallPulseEnd => exact h.live_kept (.recallPulseEndStep s) e
    | sampleFrame p rx => exact h.live (h.linkReceive p rx) e
    | hello p rx => exact h.live (h.linkReceive p rx) e
    | alive p rx => exact h.live (h.linkReceive p rx) e
    | discardedStatusFrame p rx => exact h.live (h.linkReceive p rx) e
    | badFrame p rx => exact h.live (h.linkReceive p rx) e
    | silenceEndExpiry p => exact h.live_kept (.silenceEndStep p s) e
    | presenceActive p => exact h.live_kept (.presenceActiveStep p s) e
    | presenceInactive p => exact h.live_kept (.presenceInactiveStep p s) e
    | helloWaitEndExpiry p => exact h.live_kept (.helloWaitEndStep p s) e
    | breakEnd p => exact h.live_kept (.breakEndStep p s) e
    | outboundFrameSent p => exact h.live_kept (.outboundFrameSentStep p s) e
    | zeroTimeout l => exact h.live_kept (.zeroTimeoutStep l s) e
    | settleEndExpiry => exact h.live_kept (.writesAttempt (.settleEndStep s)) e
    | windowCloseExpiry => exact h.live_kept (.writesAttempt (windowCloseStep_spec s).1) e
    | recallShotEndExpiry => exact h.live_kept (.writesAttempt (recallShotEndStep_spec s).1) e
    | heldAgeEndExpiry l => exact h.live_kept (.writesAttempt (heldAgeEndStep_spec l s).1) e
    | attnPulseStart =>
      refine h.live_kept ?_ e
      unfold attnPulseStartStep
      split <;> exact .of_fields rfl rfl rfl rfl
    | attnPulseEnd => exact h.live_kept (.of_fields rfl rfl rfl rfl) e
    | loadAddressAcknowledged => exact h.live_kept (.loadAddressStep s) e
    | loadAcknowledgeDeadline => exact h.live_kept (.loadDeadlineStep s) e
    | loadRead taken => exact h.live (h.loadReadStep taken) e
    | saveWriteTaken => exact h.live_kept (.saveTakenStep s) e
    | saveWriteStored => exact h.live_kept (.saveStoredStep s) e
    | saveAcknowledgeDeadline => exact h.live_kept (.saveDeadlineStep s) e
    | _ => cases hr

end TablesInv

/-- Settles O57: a command either keeps the tables, but for a ZERO that ends, or is one of the writers LANE_SET, PROFILE_SET, LINE_SET,
ZERO, the 64th commit of a ZERO, the end of the load and a reset, each of which writes values within their ranges. -/
theorem tablesStayInRange : Obligations.TablesStayInRange := by
  intro s t h e
  unfold step at e
  split at e
  · cases e; exact h
  · refine TablesInv.exec ?_ e
    exact h.kept (.of_fields rfl rfl rfl rfl)

end Sys2Proof.Machine
end

section
/-! PROOFS. The bytes of the tables are read back, and what is out of range is refused (section 12.2, R45, R198). -/

namespace Sys2Proof.Machine

/-! ### One field written and read -/

theorem laneOfByte_eq {b : Byte} {l : LaneIx} (h : b.toNat = l.val + 1) : laneOfByte b = some l := by
  have range : 1 ≤ b.toNat ∧ b.toNat ≤ 10 := by omega
  rw [laneOfByte, dif_pos range]
  exact congrArg some (Fin.ext (by simp only; omega))

theorem laneOfByte_none {b : Byte} (h : b.toNat = 0 ∨ 10 < b.toNat) : laneOfByte b = none := dif_neg (by omega)

theorem profileOfByte_eq {b : Byte} {n : Fin 4} (h : b.toNat = n.val) : profileOfByte b = some n := by
  rw [profileOfByte, dif_pos (by omega)]
  exact congrArg some (Fin.ext h)

theorem profileOfByte_none {b : Byte} (h : 3 < b.toNat) : profileOfByte b = none := dif_neg (by omega)

theorem be8_toNat {b : Byte} {n : Nat} (h : b.toNat = n) : be8 n = [b] := by rw [← h, be8, BitVec.ofNat_toNat, BitVec.setWidth_eq]

theorem byte_ofNat_toNat {n : Nat} (h : n ≤ 255) : (BitVec.ofNat 8 n).toNat = n := by
  rw [BitVec.toNat_ofNat]; omega

theorem rd16_be16 {n : Nat} (h : n ≤ 65535) : rd16 (BitVec.ofNat 8 (n / 256)) (BitVec.ofNat 8 n) = n := by
  rw [rd16, BitVec.toNat_append, BitVec.toNat_ofNat, BitVec.toNat_ofNat, ← Nat.shiftLeft_add_eq_or_of_lt (Nat.mod_lt _ (by decide)),
    Nat.shiftLeft_eq]
  omega

theorem rdInt16_beInt16 {i : Int} (lower : -32768 ≤ i) (upper : i ≤ 32767) :
    rdInt16 ((BitVec.ofInt 16 i).extractLsb' 8 8) ((BitVec.ofInt 16 i).extractLsb' 0 8) = i := by
  have halves : ∀ v : BitVec 16, (v.extractLsb' 8 8 ++ v.extractLsb' 0 8 : BitVec 16) = v := by
    intro v
    rw [BitVec.extractLsb'_append_extractLsb'_eq_extractLsb' (by rfl)]
    simp
  rw [rdInt16, halves, BitVec.toInt_ofInt]
  simp only [Int.bmod_def]
  omega

/-- The port byte of a lane entry (section 12.2). -/
def lanePortByte (o : Option PortIx) : Byte := match o with | some p => BitVec.ofNat 8 p.val | none => 0xFF#8

theorem lanePortOfByte_byte (o : Option PortIx) : lanePortOfByte (lanePortByte o) = some o := by
  revert o; decide

theorem maskOfByte_mask {m : BitVec 4} (h : m ≠ 0#4) : maskOfByte (0#4 ++ m) = some m := by
  revert m; decide

theorem gainOfBytes_be16 {g : Nat} (h : 1 ≤ g ∧ g ≤ 16383) : gainOfBytes (BitVec.ofNat 8 (g / 256)) (BitVec.ofNat 8 g) = some g := by
  rw [gainOfBytes, rd16_be16 (by omega), if_pos h]

theorem profileOfByte_val (n : Fin 4) : profileOfByte (BitVec.ofNat 8 n.val) = some n := profileOfByte_eq (byte_ofNat_toNat (by omega))

theorem flagOfByte_mark (b : Bool) : flagOfByte (if b then 0x01#8 else 0x00#8) = some b := by cases b <;> rfl

/-- The ATTN mode byte of the line settings (section 12.2). -/
def attnModeByte (m : AttnMode) : Byte := match m with | .level => 0#8 | .pulse => 1#8

theorem attnModeOfByte_byte (m : AttnMode) : attnModeOfByte (attnModeByte m) = some m := by cases m <;> rfl

theorem rateOfByte_code (r : SampleRate) : rateOfByte (rateCode r) = some r := by cases r <;> rfl

theorem inRange_mem {lo hi n : Nat} (h : lo ≤ n ∧ n ≤ hi) : inRange lo hi n = some n := if_pos h

/-! ### The tables written and read (section 12.2) -/

theorem vector4_eq {α : Type} (v : Vector α 4) : #v[v[0], v[1], v[2], v[3]] = v := by
  ext i hi
  interval_cases i <;> rfl

/-- The bytes of a lane entry, field by field. -/
theorem laneEntryBytes_eq (e : LaneEntry) : laneEntryBytes e =
    lanePortByte e.port :: (0#4 ++ e.sumSet) :: (0#4 ++ e.commitSet) :: (be16 e.gains[0] ++ be16 e.gains[1] ++ be16 e.gains[2]
      ++ be16 e.gains[3] ++ beInt16 e.zeros[0] ++ beInt16 e.zeros[1] ++ beInt16 e.zeros[2] ++ beInt16 e.zeros[3]
      ++ be8 e.latency ++ be8 e.profile.val ++ beBool e.lampEnable) := rfl

/-- The bytes of the line settings, field by field. -/
theorem lineBytes_eq (c : LineSettings) : lineBytes c =
    be16 c.reactionLimit ++ be16 c.window ++ be16 c.settle ++ be8 c.qualify ++ be16 c.pulseLength ++ beBool c.autoRecall
      ++ [attnModeByte c.attnMode, rateCode c.rate] := rfl

/-- Twenty-two bytes are read when each of the encodings that can be refused is read (R198). -/
theorem laneEntryOfBytes_fields {p sm cm g0 h0 g1 h1 g2 h2 g3 h3 z0 y0 z1 y1 z2 y2 z3 y3 lat prof lamp : Byte} {port : Option PortIx}
    {sum commit : BitVec 4} {n0 n1 n2 n3 : Nat} {profile : Fin 4} {enable : Bool} (hp : lanePortOfByte p = some port)
    (hsm : maskOfByte sm = some sum) (hcm : maskOfByte cm = some commit) (hg0 : gainOfBytes g0 h0 = some n0)
    (hg1 : gainOfBytes g1 h1 = some n1) (hg2 : gainOfBytes g2 h2 = some n2) (hg3 : gainOfBytes g3 h3 = some n3)
    (hprof : profileOfByte prof = some profile) (hlamp : flagOfByte lamp = some enable) :
    laneEntryOfBytes [p, sm, cm, g0, h0, g1, h1, g2, h2, g3, h3, z0, y0, z1, y1, z2, y2, z3, y3, lat, prof, lamp] =
      some { port := port, sumSet := sum, commitSet := commit, gains := #v[n0, n1, n2, n3],
             zeros := #v[rdInt16 z0 y0, rdInt16 z1 y1, rdInt16 z2 y2, rdInt16 z3 y3], latency := lat.toNat, profile := profile,
             lampEnable := enable } := by
  simp only [laneEntryOfBytes, hp, hsm, hcm, hg0, hg1, hg2, hg3, hprof, hlamp]

/-- A lane entry within its ranges is read back from its 22 bytes (section 12.2). -/
theorem laneEntryOfBytes_bytes {e : LaneEntry} (h : e.Ok) : laneEntryOfBytes (laneEntryBytes e) = some e := by
  obtain ⟨sum, commit, gains, zeros, latency⟩ := h
  have zero : ∀ i (hi : i < 4), rdInt16 ((BitVec.ofInt 16 e.zeros[i]).extractLsb' 8 8) ((BitVec.ofInt 16 e.zeros[i]).extractLsb' 0 8)
      = e.zeros[i] := fun i hi => rdInt16_beInt16 (zeros ⟨i, hi⟩).1 (zeros ⟨i, hi⟩).2
  refine (laneEntryOfBytes_fields (lanePortOfByte_byte e.port) (maskOfByte_mask sum) (maskOfByte_mask commit)
    (gainOfBytes_be16 (gains 0)) (gainOfBytes_be16 (gains 1)) (gainOfBytes_be16 (gains 2)) (gainOfBytes_be16 (gains 3))
    (profileOfByte_val e.profile) (flagOfByte_mark e.lampEnable)).trans (congrArg some ?_)
  rw [zero 0 (by decide), zero 1 (by decide), zero 2 (by decide), zero 3 (by decide), byte_ofNat_toNat latency]
  exact congrArg₂ (fun g z => ({ e with gains := g, zeros := z } : LaneEntry)) (vector4_eq e.gains) (vector4_eq e.zeros)

/-- A profile within its ranges is read back from its 5 bytes (section 12.2). -/
theorem profileOfBytes_bytes {p : Profile} (h : p.Ok) : profileOfBytes (profileBytes p) = some p := by
  obtain ⟨tAbs, k, persistence⟩ := h
  simp only [profileBytes, be16, be8, beBool, List.cons_append, List.nil_append, profileOfBytes]
  rw [rd16_be16 (by omega), byte_ofNat_toNat (by omega), byte_ofNat_toNat (by omega), inRange_mem tAbs, inRange_mem k,
    inRange_mem persistence, flagOfByte_mark]

/-- Line settings within their ranges are read back from their 12 bytes (section 12.2). -/
theorem lineOfBytes_bytes {c : LineSettings} (h : c.Ok) : lineOfBytes (lineBytes c) = some c := by
  obtain ⟨limit, window, settle, qualify, pulse⟩ := h
  simp only [lineBytes_eq, be16, be8, beBool, List.cons_append, List.nil_append, lineOfBytes]
  rw [rd16_be16 (by omega), rd16_be16 (by omega), rd16_be16 (by omega), byte_ofNat_toNat (by omega), rd16_be16 (by omega),
    inRange_mem ⟨Nat.zero_le _, limit⟩, inRange_mem window, inRange_mem ⟨Nat.zero_le _, settle⟩, inRange_mem qualify,
    inRange_mem pulse, flagOfByte_mark, attnModeOfByte_byte, rateOfByte_code]

/-! ### What is out of range is not read (R198) -/

theorem lanePortOfByte_range {b : Byte} {o : Option PortIx} (h : lanePortOfByte b = some o) : ¬(12 ≤ b.toNat ∧ b.toNat ≤ 0xFE) := by
  have refused : ∀ b : Byte, 12 ≤ b.toNat ∧ b.toNat ≤ 0xFE → lanePortOfByte b = none := by decide +kernel
  intro hr
  rw [refused b hr] at h
  cases h

theorem maskOfByte_range {b : Byte} {m : BitVec 4} (h : maskOfByte b = some m) : b.toNat ≠ 0 ∧ b.toNat ≤ 15 := by
  have range : ∀ b : Byte, (maskOfByte b).isSome = true → b.toNat ≠ 0 ∧ b.toNat ≤ 15 := by decide +kernel
  exact range b (by rw [h]; rfl)

theorem profileOfByte_range {b : Byte} {n : Fin 4} (h : profileOfByte b = some n) : b.toNat ≤ 3 := by
  by_contra hr
  rw [profileOfByte_none (by omega)] at h
  cases h

theorem flagOfByte_range {b : Byte} {f : Bool} (h : flagOfByte b = some f) : b.toNat ≤ 1 := by
  have range : ∀ b : Byte, (flagOfByte b).isSome = true → b.toNat ≤ 1 := by decide +kernel
  exact range b (by rw [h]; rfl)

theorem attnModeOfByte_range {b : Byte} {m : AttnMode} (h : attnModeOfByte b = some m) : b.toNat ≤ 1 := by
  have range : ∀ b : Byte, (attnModeOfByte b).isSome = true → b.toNat ≤ 1 := by decide +kernel
  exact range b (by rw [h]; rfl)

theorem rateOfByte_range {b : Byte} {r : SampleRate} (h : rateOfByte b = some r) : b.toNat ≠ 0 ∧ b.toNat ≤ 3 := by
  have range : ∀ b : Byte, (rateOfByte b).isSome = true → b.toNat ≠ 0 ∧ b.toNat ≤ 3 := by decide +kernel
  exact range b (by rw [h]; rfl)

/-- A lane entry with an encoding out of its range is not read (R198). -/
theorem laneEntryOfBytes_none {p sm cm g0 h0 g1 h1 g2 h2 g3 h3 z0 y0 z1 y1 z2 y2 z3 y3 lat prof lamp : Byte}
    (h : (12 ≤ p.toNat ∧ p.toNat ≤ 0xFE) ∨ sm.toNat = 0 ∨ 15 < sm.toNat ∨ cm.toNat = 0 ∨ 15 < cm.toNat
      ∨ rd16 g0 h0 = 0 ∨ 16383 < rd16 g0 h0 ∨ rd16 g1 h1 = 0 ∨ 16383 < rd16 g1 h1 ∨ rd16 g2 h2 = 0 ∨ 16383 < rd16 g2 h2
      ∨ rd16 g3 h3 = 0 ∨ 16383 < rd16 g3 h3 ∨ 3 < prof.toNat ∨ 1 < lamp.toNat) :
    laneEntryOfBytes [p, sm, cm, g0, h0, g1, h1, g2, h2, g3, h3, z0, y0, z1, y1, z2, y2, z3, y3, lat, prof, lamp] = none := by
  simp only [laneEntryOfBytes]
  split
  · next hp hsm hcm hg0 hg1 hg2 hg3 hprof hlamp =>
    have port := lanePortOfByte_range hp
    have sum := maskOfByte_range hsm
    have commit := maskOfByte_range hcm
    have gain0 := gainOfBytes_some hg0
    have gain1 := gainOfBytes_some hg1
    have gain2 := gainOfBytes_some hg2
    have gain3 := gainOfBytes_some hg3
    have profile := profileOfByte_range hprof
    have flag := flagOfByte_range hlamp
    omega
  · rfl

/-- A profile with an encoding out of its range is not read (R198). -/
theorem profileOfBytes_none {th tl k p u : Byte}
    (h : rd16 th tl < 50 ∨ 2000 < rd16 th tl ∨ k.toNat = 0 ∨ 8 < k.toNat ∨ p.toNat = 0 ∨ 8 < p.toNat ∨ 1 < u.toNat) :
    profileOfBytes [th, tl, k, p, u] = none := by
  simp only [profileOfBytes]
  split
  · next ht hk hp hu =>
    have tAbs := inRange_some ht
    have kRange := inRange_some hk
    have pRange := inRange_some hp
    have flag := flagOfByte_range hu
    omega
  · rfl

/-- Line settings with an encoding out of its range are not read (R198). -/
theorem lineOfBytes_none {rh rl wh wl sh sl q ph pl auto mode rate : Byte}
    (h : 2000 < rd16 rh rl ∨ rd16 wh wl < 1000 ∨ 5000 < rd16 wh wl ∨ 20000 < rd16 sh sl ∨ q.toNat = 0 ∨ 100 < q.toNat
      ∨ rd16 ph pl < 100 ∨ 10000 < rd16 ph pl ∨ 1 < auto.toNat ∨ 1 < mode.toNat ∨ rate.toNat = 0 ∨ 3 < rate.toNat) :
    lineOfBytes [rh, rl, wh, wl, sh, sl, q, ph, pl, auto, mode, rate] = none := by
  simp only [lineOfBytes]
  split
  · next hr hw hs hq hp ha hm hrate =>
    have limit := inRange_some hr
    have window := inRange_some hw
    have settle := inRange_some hs
    have qualify := inRange_some hq
    have pulse := inRange_some hp
    have flag := flagOfByte_range ha
    have attn := attnModeOfByte_range hm
    have code := rateOfByte_range hrate
    omega
  · rfl

end Sys2Proof.Machine
end

section
/-! PROOFS. The requests that read and write the tables, and ZERO: what is refused, and what a request that passes does (R45 to R54, R72,
R73). -/

namespace Sys2Proof.Machine

/-! ### A request that the part serves -/

/-- A request that its owner refuses changes nothing but the reply that waits (R173). -/
theorem Serves.refused {s : State} {r : Request} {c : Instr} (h : Serves s r) (k : Kind) {payload : List Byte} {st : Status}
    (hc : requestOf c = some (k.code, r)) (hp : r.payload = payload) (hl : payload.length = k.length) (hk : k ≠ .restart)
    (e : serveKind k payload s = refuse s st) : exec c s = .next { s with host := answered s r k.code st [] } := by
  subst hp
  exact exec_request_refused hc h.1 hl hk (.inl h.2) e

/-- A request that its owner accepts has the owner's effect, and its reply waits (R173, R176). -/
theorem Serves.accepted {s t : State} {r : Request} {c : Instr} (h : Serves s r) (k : Kind) {payload reply : List Byte}
    (hc : requestOf c = some (k.code, r)) (hp : r.payload = payload) (hl : payload.length = k.length) (hk : k ≠ .restart)
    (e : serveKind k payload s = accepted t reply) (host : t.host = s.host) :
    exec c s = .next { t with host := answered s r k.code .ok reply } := by
  subst hp
  exact exec_request_accepted hc h.1 hl hk (.inl h.2) e host

/-! ### Reading (R54) -/

theorem laneGetServe_lane {b : Byte} {l : LaneIx} (h : b.toNat = l.val + 1) (s : State) :
    laneGetServe [b] s = accepted s (b :: laneEntryBytes (s.lane l)) := by
  simp only [laneGetServe, laneOfByte_eq h, be8_toNat (n := laneNumber l) h, List.cons_append, List.nil_append]

theorem laneGetServe_outside {b : Byte} (h : b.toNat = 0 ∨ 10 < b.toNat) (s : State) : laneGetServe [b] s = refuse s .badValue := by
  simp only [laneGetServe, laneOfByte_none h]

theorem profileGetServe_profile {b : Byte} {n : Fin 4} (h : b.toNat = n.val) (s : State) :
    profileGetServe [b] s = accepted s (b :: profileBytes (s.profile n)) := by
  simp only [profileGetServe, profileOfByte_eq h, be8_toNat h, List.cons_append, List.nil_append]

theorem profileGetServe_outside {b : Byte} (h : 3 < b.toNat) (s : State) : profileGetServe [b] s = refuse s .badValue := by
  simp only [profileGetServe, profileOfByte_none h]

/-- Settles O10: each of the three requests answers from its table, or its number names no entry of it. -/
theorem tablesRead : Obligations.TablesRead := by
  refine ⟨fun s r b l hs hp hb => ?_, fun s r b hs hp hb => ?_, fun s r b n hs hp hb => ?_, fun s r b hs hp hb => ?_, fun s r hs hp => ?_⟩
  · exact hs.accepted .laneGet rfl hp rfl (by decide) (laneGetServe_lane hb s) rfl
  · exact hs.refused .laneGet rfl hp rfl (by decide) (laneGetServe_outside hb s)
  · exact hs.accepted .profileGet rfl hp rfl (by decide) (profileGetServe_profile hb s) rfl
  · exact hs.refused .profileGet rfl hp rfl (by decide) (profileGetServe_outside hb s)
  · exact hs.accepted .lineGet rfl hp rfl (by decide) (e := rfl) rfl

/-! ### ZERO (R72, R73) -/

theorem hasStream_eq {s : State} {l : LaneIx} {p : PortIx} (h : (s.lane l).port = some p) :
    hasStream s l = ((s.port p).link = .streaming && !(s.port p).mismatched) := by
  simp only [hasStream, h]

/-- ZERO of a lane on a port, in the order of R72. -/
theorem zeroServe_port {s : State} {b : Byte} {l : LaneIx} {p : PortIx} (hb : b.toNat = l.val + 1) (hp : (s.lane l).port = some p) :
    zeroServe [b] s =
      if lineState s ≠ .idle ∨ (s.port p).link ≠ .streaming ∨ (s.port p).mismatched = true then refuse s .state
      else if (s.zero l).isSome ∨ s.store.state = .saving then refuse s .busy
      else accepted (s.setZero l (some (zeroStart s.clock))) [] := by
  simp only [zeroServe, laneOfByte_eq hb, hp, hasStream_eq hp]
  by_cases idle : lineState s = .idle <;> by_cases link : (s.port p).link = .streaming <;>
    cases mismatched : (s.port p).mismatched <;> simp [idle, link, ite_or]

theorem zeroServe_noPort {s : State} {b : Byte} {l : LaneIx} (hb : b.toNat = l.val + 1) (hp : (s.lane l).port = none) :
    zeroServe [b] s = refuse s .badValue := by
  simp only [zeroServe, laneOfByte_eq hb, hp, if_true]

theorem zeroServe_outside {b : Byte} (h : b.toNat = 0 ∨ 10 < b.toNat) (s : State) : zeroServe [b] s = refuse s .badValue := by
  simp only [zeroServe, laneOfByte_none h]

/-- Settles O15: ZERO meets the tests of R72 in their order, and passes with its counts at 0. -/
theorem zeroStarts : Obligations.ZeroStarts := by
  refine ⟨fun s r b hs hp hb => ?_, fun s r b l hs hp hb => ⟨fun hn => ?_, fun p hport => ?_⟩⟩
  · exact hs.refused .zero rfl hp rfl (by decide) (zeroServe_outside hb s)
  · exact hs.refused .zero rfl hp rfl (by decide) (zeroServe_noPort hb hn)
  · have served := zeroServe_port hb hport
    refine ⟨fun state => ?_, fun idle link mismatched => ⟨fun busy => ?_, fun free store => ?_⟩⟩
    · exact hs.refused .zero rfl hp rfl (by decide) (served.trans (if_pos state))
    · rw [if_neg (by simp [idle, link, mismatched]), if_pos busy] at served
      exact hs.refused .zero rfl hp rfl (by decide) served
    · rw [if_neg (by simp [idle, link, mismatched]), if_neg (by simp [free, store])] at served
      exact hs.accepted .zero rfl hp rfl (by decide) served rfl

/-! ### PROFILE_SET (R50) -/

theorem tablesLocked_iff {s : State} {r : Request} (h : Serves s r) : tablesLocked s = true ↔ s.store.state = .saving := by
  simp [tablesLocked, h.2]

theorem profileInUse_iff {s : State} {n : Fin 4} : profileInUse s n = true ↔ ∃ l ∈ openLanes s, (s.lane l).profile = n := by
  simp [profileInUse]

/-- PROFILE_SET with its fields within their ranges (R50). -/
theorem profileSetServe_read {s : State} {r : Request} {b : Byte} {n : Fin 4} {p : Profile} (h : Serves s r) (hb : b.toNat = n.val)
    (ok : p.Ok) : profileSetServe (b :: profileBytes p) s =
      if (∃ l ∈ openLanes s, (s.lane l).profile = n) ∨ s.store.state = .saving then refuse s .busy
      else accepted (s.setProfile n p) [] := by
  simp only [profileSetServe, profileOfByte_eq hb, profileOfBytes_bytes ok, profileInUse_iff, tablesLocked_iff h]

theorem profileSetServe_outside {b th tl k p u : Byte} (s : State)
    (h : 3 < b.toNat ∨ rd16 th tl < 50 ∨ 2000 < rd16 th tl ∨ k.toNat = 0 ∨ 8 < k.toNat ∨ p.toNat = 0 ∨ 8 < p.toNat ∨ 1 < u.toNat) :
    profileSetServe [b, th, tl, k, p, u] s = refuse s .badValue := by
  rcases h with number | fields
  · simp only [profileSetServe, profileOfByte_none number]
  · simp only [profileSetServe, profileOfBytes_none fields]
    split
    · next read => cases read
    · rfl

/-! ### LINE_SET that keeps the sample rate (R51, R53) -/

/-- LINE_SET with its fields within their ranges (R51). -/
theorem lineSetServe_read {s : State} {r : Request} {c : LineSettings} (h : Serves s r) (ok : c.Ok) :
    lineSetServe (lineBytes c) s =
      if lineState s ≠ .idle ∨ s.store.state = .saving then refuse s .busy else accepted (lineSetAccepted c s) [] := by
  simp only [lineSetServe, lineOfBytes_bytes ok, tablesLocked_iff h]

/-- A change of ATTN mode drops the pulses owed, and one to PULSE ends the pulse under way (R53, R187). -/
theorem attnModeChange_eq (old new : AttnMode) (q : EventQueue) : attnModeChange old new q =
    { q with owed := if new = old then q.owed else 0, pulse := if old = .level ∧ new = .pulse then false else q.pulse } := by
  cases old <;> cases new <;> rfl

theorem lineSetServe_outside {rh rl wh wl sh sl q ph pl auto mode rate : Byte} (s : State)
    (h : 2000 < rd16 rh rl ∨ rd16 wh wl < 1000 ∨ 5000 < rd16 wh wl ∨ 20000 < rd16 sh sl ∨ q.toNat = 0 ∨ 100 < q.toNat
      ∨ rd16 ph pl < 100 ∨ 10000 < rd16 ph pl ∨ 1 < auto.toNat ∨ 1 < mode.toNat ∨ rate.toNat = 0 ∨ 3 < rate.toNat) :
    lineSetServe [rh, rl, wh, wl, sh, sl, q, ph, pl, auto, mode, rate] s = refuse s .badValue := by
  simp only [lineSetServe, lineOfBytes_none h]

/-- Settles O14: a field out of its range is not read; then BUSY; else the table is written as a whole. -/
theorem profileAndLineWritten : Obligations.ProfileAndLineWritten := by
  refine ⟨fun s r b n p hs hp ok hb => ⟨fun busy => ?_, fun unused store => ?_⟩, fun s r c hs hp ok => ⟨fun busy => ?_, fun idle store rate => ?_⟩,
    fun s r b th tl k p u hs hp range => ?_, fun s r rh rl wh wl sh sl q ph pl auto mode rate hs hp range => ?_⟩
  · exact hs.refused .profileSet rfl hp rfl (by decide) ((profileSetServe_read hs hb ok).trans (if_pos busy))
  · have served := (profileSetServe_read hs hb ok).trans (if_neg (not_or.mpr ⟨fun ⟨l, hl, hn⟩ => unused l hl hn, store⟩))
    exact hs.accepted .profileSet rfl hp rfl (by decide) served rfl
  · exact hs.refused .lineSet rfl hp rfl (by decide) ((lineSetServe_read hs ok).trans (if_pos busy))
  · have served := (lineSetServe_read hs ok).trans (if_neg (not_or.mpr ⟨not_not.mpr idle, store⟩))
    rw [lineSetAccepted, if_pos rate.symm, attnModeChange_eq] at served
    exact hs.accepted .lineSet rfl hp rfl (by decide) served rfl
  · exact hs.refused .profileSet rfl hp rfl (by decide) (profileSetServe_outside s range)
  · exact hs.refused .lineSet rfl hp rfl (by decide) (lineSetServe_outside s range)

/-! ### LANE_SET (R45 to R48) -/

/-- LANE_SET with its fields within their ranges, in the order of R46 and R47. -/
theorem laneSetServe_read {s : State} {r : Request} {b : Byte} {l : LaneIx} {e : LaneEntry} (h : Serves s r) (hb : b.toNat = l.val + 1)
    (ok : e.Ok) : laneSetServe (b :: laneEntryBytes e) s =
      if ∃ k p, k ≠ l ∧ e.port = some p ∧ (s.lane k).port = some p then refuse s .badValue
      else if l ∈ openLanes s ∨ (s.zero l).isSome ∨ s.store.state = .saving then refuse s .busy
      else accepted (laneSetAccepted l e s) [] := by
  simp only [laneSetServe, laneOfByte_eq hb, laneEntryOfBytes_bytes ok, heldByOther_iff, tablesLocked_iff h]

/-- LANE_SET that passes the tests of R46 and R47. -/
theorem laneSetServe_accepted {s : State} {r : Request} {b : Byte} {l : LaneIx} {e : LaneEntry} (h : Serves s r) (hb : b.toNat = l.val + 1)
    (ok : e.Ok) (free : ∀ k p, k ≠ l → e.port = some p → (s.lane k).port ≠ some p) (hopen : l ∉ openLanes s) (zero : s.zero l = none)
    (store : s.store.state ≠ .saving) : laneSetServe (b :: laneEntryBytes e) s = accepted (laneSetAccepted l e s) [] := by
  rw [laneSetServe_read h hb ok, if_neg fun ⟨k, p, hk, hp, hq⟩ => free k p hk hp hq, if_neg (by simp [hopen, zero, store])]

theorem laneSetServe_outside {b p sm cm g0 h0 g1 h1 g2 h2 g3 h3 z0 y0 z1 y1 z2 y2 z3 y3 lat prof lamp : Byte} (s : State)
    (h : b.toNat = 0 ∨ 10 < b.toNat ∨ (12 ≤ p.toNat ∧ p.toNat ≤ 0xFE) ∨ sm.toNat = 0 ∨ 15 < sm.toNat ∨ cm.toNat = 0 ∨ 15 < cm.toNat
      ∨ rd16 g0 h0 = 0 ∨ 16383 < rd16 g0 h0 ∨ rd16 g1 h1 = 0 ∨ 16383 < rd16 g1 h1 ∨ rd16 g2 h2 = 0 ∨ 16383 < rd16 g2 h2
      ∨ rd16 g3 h3 = 0 ∨ 16383 < rd16 g3 h3 ∨ 3 < prof.toNat ∨ 1 < lamp.toNat) :
    laneSetServe [b, p, sm, cm, g0, h0, g1, h1, g2, h2, g3, h3, z0, y0, z1, y1, z2, y2, z3, y3, lat, prof, lamp] s = refuse s .badValue := by
  rcases or_assoc.mpr h with number | fields
  · simp only [laneSetServe, laneOfByte_none number]
  · simp only [laneSetServe, laneEntryOfBytes_none fields]
    split
    · next read => cases read
    · rfl

/-- A link reset that a table change calls for on the port of an entry, when it has one (R48). -/
def resetPort (o : Option PortIx) (before lane : Option LaneIx) (s : State) : State :=
  match o with
  | some p => tableReset p before lane s
  | none => s

/-- With the port kept, a change of the sets resets it; else the former port is reset and then the new one (R48). -/
theorem laneSetResets_eq (l : LaneIx) (old new : LaneEntry) (s : State) : laneSetResets l old new s =
    if old.port = new.port then
      if old.sumSet ≠ new.sumSet ∨ old.commitSet ≠ new.commitSet then resetPort new.port (some l) (some l) s else s
    else resetPort new.port none (some l) (resetPort old.port (some l) (some l) s) := by
  unfold laneSetResets resetPort
  split
  · cases new.port <;> simp
  · cases old.port <;> cases new.port <;> rfl

theorem resetPort_absent {o : Option PortIx} {s : State} (before lane : Option LaneIx) (h : ∀ p, o = some p → (s.port p).link = .absent) :
    resetPort o before lane s = s := by
  cases o with
  | none => rfl
  | some p => exact if_neg (by simp [h p rfl])

/-- With the port and the sets as they were, or every port concerned ABSENT, a LANE_SET resets no link (R48). -/
theorem laneSetResets_nothing {s : State} {l : LaneIx} {old new : LaneEntry}
    (h : (old.port = new.port ∧ old.sumSet = new.sumSet ∧ old.commitSet = new.commitSet)
      ∨ ∀ p, old.port = some p ∨ new.port = some p → (s.port p).link = .absent) : laneSetResets l old new s = s := by
  rw [laneSetResets_eq]
  rcases h with ⟨port, sum, commit⟩ | absent
  · simp [port, sum, commit]
  · rw [resetPort_absent (o := old.port) _ _ fun p hp => absent p (.inl hp), resetPort_absent _ _ fun p hp => absent p (.inr hp),
      resetPort_absent _ _ fun p hp => absent p (.inr hp), ite_self, ite_self]

/-- Settles O12: the entry is read or refused with its ranges, then in the order of R46 and R47; a LANE_SET that resets no link writes the
entry alone. -/
theorem laneSetWritesEntry : Obligations.LaneSetWritesEntry := by
  refine ⟨fun s r b l e hs hp ok hb => ⟨fun held => ?_, fun free => ⟨fun busy => ?_, fun hopen zero store quiet => ?_⟩⟩, ?_⟩
  · exact hs.refused .laneSet rfl hp rfl (by decide) ((laneSetServe_read hs hb ok).trans (if_pos held))
  · have served := (laneSetServe_read hs hb ok).trans (if_neg fun ⟨k, p, hk, hp, hq⟩ => free k p hk hp hq)
    exact hs.refused .laneSet rfl hp rfl (by decide) (served.trans (if_pos busy))
  · have served := laneSetServe_accepted hs hb ok free hopen zero store
    rw [laneSetAccepted, laneSetResets_nothing (s := s.setLane l e) quiet] at served
    exact hs.accepted .laneSet rfl hp rfl (by decide) served rfl
  · intro s r b p sm cm g0 h0 g1 h1 g2 h2 g3 h3 z0 y0 z1 y1 z2 y2 z3 y3 lat prof lamp hs hp range
    exact hs.refused .laneSet rfl hp rfl (by decide) (laneSetServe_outside s range)

end Sys2Proof.Machine
end

section
/-! PROOFS. The link resets that a change of the tables calls for: the ports concerned, the buffers and the ZEROs of their lanes (R28, R36,
R48, R52, R58, R77). -/

namespace Sys2Proof.Machine

/-- A port that a table change resets: LINKING or STREAMING (R48, R52). -/
def Port.linked (x : Port) : Bool := x.link = .linking || x.link = .streaming

/-- What the resets of the ports `ps` make of a state, the lane `who p` losing its buffer, and its ZERO when the port was STREAMING, with
port `p` (R28, R58, R77). -/
structure LinksReset (who : PortIx → Option LaneIx) (ps : List PortIx) (s t : State) : Prop where
  clock      : t.clock = s.clock
  laneMap    : t.laneMap = s.laneMap
  line       : t.line = s.line
  rings      : t.rings = s.rings
  host       : t.host = s.host
  ports      : ∀ q, t.port q = if q ∈ ps ∧ (s.port q).linked = true then (s.port q).linkReset s.clock else s.port q
  assemblers : ∀ k, t.assembler k = if ∃ p ∈ ps, who p = some k ∧ (s.port p).linked = true then .cleared else s.assembler k
  zeros      : ∀ k, t.zero k = if ∃ p ∈ ps, who p = some k ∧ (s.port p).link = .streaming then none else s.zero k
  events     : (∀ p ∈ ps, ∀ k, who p = some k → s.zero k = none) → t.events = s.events

namespace LinksReset

theorem nil (who : PortIx → Option LaneIx) (s : State) : LinksReset who [] s s := by
  constructor <;> simp

/-- Resets of other ports follow. -/
theorem append {who : PortIx → Option LaneIx} {ps qs : List PortIx} {s t u : State} (h : LinksReset who ps s t)
    (k : LinksReset who qs t u) (disjoint : ∀ q ∈ qs, q ∉ ps) : LinksReset who (ps ++ qs) s u := by
  have port : ∀ q ∈ qs, t.port q = s.port q := fun q hq => (h.ports q).trans (if_neg fun hp => disjoint q hq hp.1)
  refine ⟨k.clock.trans h.clock, k.laneMap.trans h.laneMap, k.line.trans h.line, k.rings.trans h.rings, k.host.trans h.host, fun q => ?_,
    fun l => ?_, fun l => ?_, fun free => ?_⟩
  · rw [k.ports]
    by_cases hq : q ∈ qs
    · simp [hq, port q hq, h.clock]
    · simp [hq, h.ports q]
  · have same : (∃ p ∈ qs, who p = some l ∧ (t.port p).linked = true) ↔ ∃ p ∈ qs, who p = some l ∧ (s.port p).linked = true :=
      exists_congr fun p => and_congr_right fun hp => by rw [port p hp]
    rw [k.assemblers, h.assemblers]
    simp only [same, List.mem_append, or_and_right, exists_or, ite_or]
    split <;> simp
  · have same : (∃ p ∈ qs, who p = some l ∧ (t.port p).link = .streaming) ↔ ∃ p ∈ qs, who p = some l ∧ (s.port p).link = .streaming :=
      exists_congr fun p => and_congr_right fun hp => by rw [port p hp]
    rw [k.zeros, h.zeros]
    simp only [same, List.mem_append, or_and_right, exists_or, ite_or]
    split <;> simp
  · refine (k.events fun p hp l hl => ?_).trans (h.events fun p hp => free p (List.mem_append_left _ hp))
    rw [h.zeros l, free p (List.mem_append_right _ hp) l hl, ite_self]

end LinksReset

/-! ### One reset -/

theorem linkReset_quiet {p : PortIx} {s : State} (lane : Option LaneIx) (h : (s.port p).link ≠ .streaming) : linkReset p lane s =
    { s with ports := s.ports.set p ((s.port p).linkReset s.clock), assemblers := clearedBuffers lane s } := by
  have reset := linkReset_setPort lane s p h
  rwa [State.setPort_self] at reset

theorem linkReset_assembler (p : PortIx) (lane : Option LaneIx) (s : State) (k : LaneIx) :
    (linkReset p lane s).assembler k = if lane = some k then .cleared else s.assembler k := by
  have buffers : (linkReset p lane s).assemblers = clearedBuffers lane s := by
    by_cases h : (s.port p).link = .streaming
    · rw [linkReset_streaming lane h]
      cases lane with
      | none => rfl
      | some l => exact closeLink_assemblers p l _ s
    · rw [linkReset_quiet lane h]
  rw [State.assembler, buffers]
  cases lane with
  | none => rfl
  | some l => exact (State.setAssembler_assembler s l k .cleared).trans (by simp)

theorem linkReset_zero (p : PortIx) (lane : Option LaneIx) (s : State) (k : LaneIx) :
    (linkReset p lane s).zero k = if lane = some k ∧ (s.port p).link = .streaming then none else s.zero k := by
  by_cases h : (s.port p).link = .streaming
  · rw [linkReset_streaming lane h]
    cases lane with
    | none => rfl
    | some l =>
      rw [State.zero, closeLink_zeros]
      exact (State.setZero_zero s l k none).trans (by simp [h])
  · rw [linkReset_quiet lane h, if_neg fun hk => h hk.2]
    rfl

theorem linkReset_events {p : PortIx} {lane : Option LaneIx} {s : State} (h : ∀ k, lane = some k → s.zero k = none) :
    (linkReset p lane s).events = s.events := by
  by_cases hl : (s.port p).link = .streaming
  · rw [linkReset_streaming lane hl]
    exact closeLink_noZero _ h
  · rw [linkReset_quiet lane hl]

namespace LinksReset

/-- A reset of a port that is neither LINKING nor STREAMING is none. -/
theorem unlinked {who : PortIx → Option LaneIx} {p : PortIx} {s : State} (h : (s.port p).linked = false) : LinksReset who [p] s s := by
  have notStreaming : (s.port p).link ≠ .streaming := fun hl => by simp [Port.linked, hl] at h
  constructor <;> simp_all

/-- A link reset that a table change calls for: the stream-ended notice meets the detector and the record alone, and the reset its port, and
of its lane the buffer and the ZERO (R28, R36, R48, R52, R58, R77). -/
theorem tableReset (who : PortIx → Option LaneIx) (p : PortIx) (before : Option LaneIx) (s : State) :
    LinksReset who [p] s (tableReset p before (who p) s) := by
  unfold Machine.tableReset
  split
  · next hl =>
    have linked : (s.port p).linked = true := by simpa [Port.linked] using hl
    have notice := OnlyRecords.portStreamEnded p before s
    generalize portStreamEnded p before s = t at notice ⊢
    have port : ∀ q, t.port q = s.port q := fun q => by rw [State.port, notice.ports, State.port]
    have zero : ∀ k, t.zero k = s.zero k := fun k => by rw [State.zero, notice.zeros, State.zero]
    have assembler : ∀ k, t.assembler k = s.assembler k := fun k => by rw [State.assembler, notice.assemblers, State.assembler]
    have writes := linkReset_writes p (who p) t
    refine ⟨(congrArg State.clock writes).trans notice.clock, (congrArg State.laneMap writes).trans notice.laneMap,
      (congrArg State.line writes).trans notice.line, (congrArg State.rings writes).trans notice.rings,
      (congrArg State.host writes).trans notice.host, fun q => ?_, fun k => ?_, fun k => ?_, fun free => ?_⟩
    · rw [linkReset_port, port, port, notice.clock]
      by_cases hq : p = q
      · subst hq; simp [linked]
      · simp [hq, Ne.symm hq]
    · rw [linkReset_assembler, assembler]
      simp [linked]
    · rw [linkReset_zero, zero, port]
      simp
    · refine (linkReset_events fun k hk => ?_).trans notice.events
      rw [zero, free p (by simp) k hk]
  · next hl => exact unlinked (by simpa [Port.linked] using hl)

end LinksReset

/-! ### LANE_SET (R48) -/

/-- The reset of an entry's port, when it has one. -/
theorem LinksReset.resetPort (o : Option PortIx) (before : Option LaneIx) (l : LaneIx) (s : State) :
    LinksReset (fun _ => some l) o.toList s (resetPort o before (some l) s) := by
  cases o with
  | none => exact .nil _ s
  | some p => exact .tableReset (fun _ => some l) p before s

/-- The ports that a LANE_SET with another port or other sets resets: the former one and the new one (R48). -/
def concernedPorts (old new : LaneEntry) : List PortIx :=
  if old.port = new.port then new.port.toList else old.port.toList ++ new.port.toList

theorem mem_concernedPorts {old new : LaneEntry} {p : PortIx} :
    p ∈ concernedPorts old new ↔ old.port = some p ∨ new.port = some p := by
  unfold concernedPorts
  split
  · next h => simp [h]
  · simp

theorem LinksReset.laneSet {old new : LaneEntry} (l : LaneIx) (s : State)
    (h : new.port ≠ old.port ∨ new.sumSet ≠ old.sumSet ∨ new.commitSet ≠ old.commitSet) :
    LinksReset (fun _ => some l) (concernedPorts old new) s (laneSetResets l old new s) := by
  rw [laneSetResets_eq, concernedPorts]
  split
  · next hp =>
    have sets : old.sumSet ≠ new.sumSet ∨ old.commitSet ≠ new.commitSet :=
      (h.resolve_left (not_not.mpr hp.symm)).imp Ne.symm Ne.symm
    rw [if_pos sets]
    exact .resetPort _ _ l s
  · next hp =>
    refine (LinksReset.resetPort old.port (some l) l s).append (.resetPort _ _ l _) fun q hq hq' => hp ?_
    rw [Option.mem_toList.mp hq, Option.mem_toList.mp hq']

/-! ### LINE_SET (R52) -/

theorem mappedLane_congr {s t : State} (h : t.laneMap = s.laneMap) (p : PortIx) : mappedLane t p = mappedLane s p := by
  unfold mappedLane State.lane; rw [h]

/-- The resets of a list of ports, each with the lane mapped to it. -/
theorem LinksReset.forPorts {s : State} (ps : List PortIx) (nodup : ps.Nodup) :
    LinksReset (mappedLane s) ps s (forPorts ps (fun p t => Machine.tableReset p (mappedLane t p) (mappedLane t p) t) s) := by
  have all : ∀ t, t.laneMap = s.laneMap →
      LinksReset (mappedLane s) ps t (Machine.forPorts ps (fun p t => Machine.tableReset p (mappedLane t p) (mappedLane t p) t) t) := by
    induction ps with
    | nil => exact fun t _ => .nil _ t
    | cons p ps ih =>
      intro t ht
      obtain ⟨hp, hps⟩ := List.nodup_cons.mp nodup
      have first : LinksReset (mappedLane s) [p] t (Machine.tableReset p (mappedLane t p) (mappedLane t p) t) := by
        rw [mappedLane_congr ht p]
        exact .tableReset (mappedLane s) p _ t
      exact first.append (ih hps _ (first.laneMap.trans ht)) fun q hq h => hp (List.mem_singleton.mp h ▸ hq)
  exact all s rfl

theorem allPorts_nodup : allPorts.Nodup := by decide

theorem LinksReset.rateResets (s : State) : LinksReset (mappedLane s) allPorts s (rateResets s) := .forPorts allPorts allPorts_nodup

/-- The state that a LINE_SET with another sample rate resets the links of: the settings written, the ATTN mode changed (R51, R53). -/
def lineWritten (c : LineSettings) (s : State) : State :=
  { s with line := c, events := attnModeChange s.line.attnMode c.attnMode s.events }

theorem LinksReset.lineSet {c : LineSettings} {s : State} (h : c.rate ≠ s.line.rate) :
    LinksReset (mappedLane s) allPorts (lineWritten c s) (lineSetAccepted c s) := by
  have resets : lineSetAccepted c s = Machine.rateResets (lineWritten c s) := if_neg (Ne.symm h)
  have mapped : mappedLane s = mappedLane (lineWritten c s) := funext fun p => (mappedLane_congr (s := s) rfl p).symm
  rw [resets, mapped]
  exact .rateResets _

/-! ### The ports and the buffers after the resets -/

/-- A port with its link reset: LINKING, nothing known of the pod, its hello wait begun (R28). -/
theorem Port.linkReset_forgets (now : Time) (x : Port) :
    (x.linkReset now).link = .linking ∧ (x.linkReset now).helloWaitEnd = some (now + 5000#32) ∧ (x.linkReset now).silenceEnd = none
      ∧ (x.linkReset now).streamingSince = none ∧ (x.linkReset now).capability = none ∧ (x.linkReset now).mismatched = false
      ∧ (x.linkReset now).lamp = false ∧ (x.linkReset now).consecutiveBad = 0 ∧ (∀ c : Chan, (x.linkReset now).expected[c] = none)
      ∧ (x.linkReset now).lastValid = x.lastValid ∧ (x.linkReset now).presence = x.presence := by
  rw [Port.linkReset_eq]
  exact ⟨rfl, rfl, rfl, rfl, rfl, rfl, rfl, rfl, fun c => by simp [Port.forget], rfl, rfl⟩

/-- The line of a port reset from STREAMING: stream-off goes out first, and the break waits (R28). -/
theorem Port.linkReset_streamOff (now : Time) {x : Port} (h : x.link = .streaming) :
    (x.linkReset now).brk = .waits ∧ (x.linkReset now).sending = some (x.sending.getD .streamOff)
      ∧ (x.linkReset now).queue = if x.sending = none then [] else [.streamOff] := by
  rw [Port.linkReset_streaming now h]
  exact ⟨rfl, rfl, rfl⟩

/-- The line of a port reset from LINKING: the break begins at once when nothing is being sent (R28). -/
theorem Port.linkReset_break (now : Time) {x : Port} (h : x.link = .linking) :
    (x.linkReset now).sending = x.sending ∧ (x.linkReset now).queue = []
      ∧ (x.linkReset now).brk = if x.sending = none then .low (now + 1#32) else .waits := by
  rw [Port.linkReset_notStreaming now (by rw [h]; decide)]
  exact ⟨rfl, rfl, rfl⟩

theorem Port.linked_iff {x : Port} : x.linked = true ↔ x.link = .linking ∨ x.link = .streaming := by simp [Port.linked]

theorem Port.linked_absent {x : Port} (h : x.link = .absent) : x.linked ≠ true := by simp [Port.linked, h]

theorem Assembler.cleared_fields : Assembler.cleared.gapPending = true ∧ ∀ c : Chan,
    Assembler.cleared.raw[c] = none ∧ Assembler.cleared.fresh[c] = false ∧ Assembler.cleared.overload[c] = false :=
  ⟨rfl, fun c => by simp [Assembler.cleared]⟩

namespace LinksReset

variable {who : PortIx → Option LaneIx} {ps : List PortIx} {s t : State}

theorem port_linked (h : LinksReset who ps s t) {p : PortIx} (hp : p ∈ ps) (hl : (s.port p).link = .linking ∨ (s.port p).link = .streaming) :
    t.port p = (s.port p).linkReset s.clock := (h.ports p).trans (if_pos ⟨hp, Port.linked_iff.mpr hl⟩)

theorem port_absent (h : LinksReset who ps s t) {p : PortIx} (hl : (s.port p).link = .absent) : t.port p = s.port p :=
  (h.ports p).trans (if_neg fun hr => Port.linked_absent hl hr.2)

theorem port_other (h : LinksReset who ps s t) {p : PortIx} (hp : p ∉ ps) : t.port p = s.port p :=
  (h.ports p).trans (if_neg fun hr => hp hr.1)

theorem assembler_cleared (h : LinksReset who ps s t) {p : PortIx} {k : LaneIx} (hp : p ∈ ps) (hk : who p = some k)
    (hl : (s.port p).link = .linking ∨ (s.port p).link = .streaming) : t.assembler k = .cleared :=
  (h.assemblers k).trans (if_pos ⟨p, hp, hk, Port.linked_iff.mpr hl⟩)

theorem assembler_absent (h : LinksReset who ps s t) {k : LaneIx} (ha : ∀ p ∈ ps, who p = some k → (s.port p).link = .absent) :
    t.assembler k = s.assembler k := (h.assemblers k).trans (if_neg fun ⟨p, hp, hk, hl⟩ => Port.linked_absent (ha p hp hk) hl)

theorem zero_absent (h : LinksReset who ps s t) {k : LaneIx} (ha : ∀ p ∈ ps, who p = some k → (s.port p).link = .absent) :
    t.zero k = s.zero k := (h.zeros k).trans (if_neg fun ⟨p, hp, hk, hl⟩ => by rw [ha p hp hk] at hl; cases hl)

/-- Lanes without a ZERO in flight have none to end. -/
theorem zeros_free (h : LinksReset who ps s t) (free : ∀ p ∈ ps, ∀ k, who p = some k → s.zero k = none) : t.zeros = s.zeros := by
  have zero : ∀ k, t.zero k = s.zero k := fun k => by
    rw [h.zeros]
    split
    · next hz =>
      obtain ⟨p, hp, hk, _⟩ := hz
      exact (free p hp k hk).symm
    · rfl
  exact Vector.ext fun i hi => zero ⟨i, hi⟩

end LinksReset

/-- Settles O13: the links concerned are reset one after another, each as `LinksReset` says, and no other port or lane is touched. -/
theorem tableChangesResetLinks : Obligations.TableChangesResetLinks := by
  refine ⟨fun s r b l e hs hp ok hb free hopen zero store change => ?_, fun s r c hs hp ok idle store rate => ?_⟩
  · have served := laneSetServe_accepted hs hb ok free hopen zero store
    have reset : LinksReset (fun _ => some l) (concernedPorts (s.lane l) e) (s.setLane l e) (laneSetAccepted l e s) :=
      .laneSet l (s.setLane l e) change
    generalize laneSetAccepted l e s = u at served reset
    have host : u.host = s.host := reset.host
    have noZero : ∀ p ∈ concernedPorts (s.lane l) e, ∀ k, some l = some k → (s.setLane l e).zero k = none := fun _ _ k hk =>
      Option.some.inj hk ▸ zero
    have port : ∀ p, (s.lane l).port = some p ∨ e.port = some p → (s.port p).link = .linking ∨ (s.port p).link = .streaming →
        ({ u with host := answered s r 0x10 .ok [] } : State).port p = (s.port p).linkReset s.clock := fun p hc => reset.port_linked (mem_concernedPorts.mpr hc)
    refine ⟨{ u with host := answered s r 0x10 .ok [] }, hs.accepted .laneSet rfl hp rfl (by decide) served host, reset.laneMap,
      reset.events noZero, reset.rings, reset.zeros_free noZero, rfl,
      fun p hc => ⟨fun linked => ?_, fun streaming => ?_, fun linking => ?_, fun absent => ?_⟩, fun p hold hnew => ?_, fun k hk => ?_,
      fun absent => ?_, fun p hc linked => ?_⟩
    · rw [port p hc linked]
      exact Port.linkReset_forgets s.clock (s.port p)
    · rw [port p hc (.inr streaming)]
      exact Port.linkReset_streamOff s.clock streaming
    · rw [port p hc (.inl linking)]
      exact Port.linkReset_break s.clock linking
    · exact reset.port_absent absent
    · exact reset.port_other fun hm => (mem_concernedPorts.mp hm).elim hold hnew
    · exact (reset.assemblers k).trans (if_neg fun ⟨_, _, h, _⟩ => hk (Option.some.inj h).symm)
    · exact reset.assembler_absent fun p hm _ => absent p (mem_concernedPorts.mp hm)
    · have cleared : ({ u with host := answered s r 0x10 .ok [] } : State).assembler l = .cleared :=
        reset.assembler_cleared (mem_concernedPorts.mpr hc) rfl linked
      rw [cleared]
      exact Assembler.cleared_fields
  · have served := (lineSetServe_read hs ok).trans (if_neg (not_or.mpr ⟨not_not.mpr idle, store⟩))
    have reset := LinksReset.lineSet rate
    generalize lineSetAccepted c s = u at served reset
    have host : u.host = s.host := reset.host
    refine ⟨{ u with host := answered s r 0x14 .ok [] }, hs.accepted .lineSet rfl hp rfl (by decide) served host, reset.line, reset.laneMap,
      reset.rings, rfl, fun p linked => ?_, fun p absent => reset.port_absent absent, fun l => ⟨fun absent => ?_, fun p _ hm =>
        ⟨fun streaming => ?_, fun linked => ?_⟩⟩⟩
    · have port : ({ u with host := answered s r 0x14 .ok [] } : State).port p = (s.port p).linkReset s.clock :=
        reset.port_linked (mem_allPorts p) linked
      obtain ⟨link, wait, _, _, capability, _⟩ := Port.linkReset_forgets s.clock (s.port p)
      rw [port]
      exact ⟨link, wait, capability, Port.linkReset_streamOff s.clock⟩
    · exact ⟨reset.assembler_absent fun p _ hm => absent p hm, reset.zero_absent fun p _ hm => absent p hm⟩
    · exact (reset.zeros l).trans (if_pos ⟨p, mem_allPorts p, hm, streaming⟩)
    · have cleared : ({ u with host := answered s r 0x14 .ok [] } : State).assembler l = .cleared :=
        reset.assembler_cleared (mem_allPorts p) hm linked
      rw [cleared]
      exact Assembler.cleared_fields

end Sys2Proof.Machine
end

section
/-! PROOFS. A lane ring read in order, and what a write does to it (R65, R66, R68). -/

namespace Sys2Proof.Machine

/-- A list is its places read in order. -/
theorem filterMap_range_getElem? {α : Type} (xs : List α) : (List.range xs.length).filterMap (fun i => xs[i]?) = xs := by
  induction xs with
  | nil => rfl
  | cons x xs ih =>
    rw [List.length_cons, List.range_succ_eq_map, List.filterMap_cons, List.filterMap_map]
    exact congrArg (x :: ·) ih

/-- A ring that is well formed in its counts, whatever its forces (R65). -/
structure Ring.Placed (r : Ring) : Prop where
  count  : r.count = r.slots.length
  size   : r.count ≤ 2048
  index  : r.writeIndex < 2048
  filled : r.count < 2048 → r.writeIndex = r.count

theorem Ring.ok_iff {r : Ring} : r.Ok ↔ r.Placed ∧ ∀ w ∈ r.slots, -3000 ≤ w.entry.force ∧ w.entry.force ≤ 30000 :=
  ⟨fun ⟨count, size, index, filled, force⟩ => ⟨⟨count, size, index, filled⟩, force⟩,
   fun ⟨⟨count, size, index, filled⟩, force⟩ => ⟨count, size, index, filled, force⟩⟩

namespace Ring.Placed

variable {r : Ring}

/-- The entries held, oldest first, are the written slots from the write index on (R68). -/
theorem held_slots (h : r.Placed) : r.held.map Prod.snd = r.slots.rotate r.writeIndex := by
  obtain ⟨count, size, index, filled⟩ := h
  rw [Ring.held, List.map_filterMap, ← filterMap_range_getElem? (r.slots.rotate r.writeIndex), List.length_rotate, ← count]
  refine List.filterMap_congr fun p hp => ?_
  have hp := List.mem_range.mp hp
  have place : r.indexAt p = (p + r.writeIndex) % r.slots.length := by
    rw [Ring.indexAt, ringSize, ← count]
    by_cases full : r.count < 2048
    · rw [filled full, Nat.add_mod_right, Nat.mod_eq_of_lt hp]
      omega
    · rw [show r.count = 2048 by omega]
      omega
  rw [List.getElem?_rotate (count ▸ hp), ← place, Ring.slot]
  cases r.slots[r.indexAt p]? <;> rfl

/-- What a write does to a ring that is not frozen: it adds a slot to one not yet full and writes one of a full ring anew (R66). -/
theorem write_eq (h : r.Placed) (free : r.frozenBy = none) (e : Entry) : r.write e =
    { slots := if r.count < 2048 then r.slots ++ [{ entry := e, intact := true }]
               else r.slots.set r.writeIndex { entry := e, intact := true },
      writeIndex := (r.writeIndex + 1) % 2048, count := min (r.count + 1) 2048, frozenBy := none } := by
  obtain ⟨count, size, index, filled⟩ := h
  have slots : writeSlot r.slots r.writeIndex { entry := e, intact := true } =
      if r.count < 2048 then r.slots ++ [{ entry := e, intact := true }] else r.slots.set r.writeIndex { entry := e, intact := true } := by
    unfold writeSlot
    split
    · rw [if_neg (by omega)]
    · rw [if_pos (by omega)]
  rw [← slots, Ring.write, free]
  rfl

theorem write (h : r.Placed) (e : Entry) : (r.write e).Placed := by
  cases frozen : r.frozenBy with
  | some id => rw [Ring.write, frozen]; exact h
  | none =>
    rw [h.write_eq frozen]
    obtain ⟨count, size, index, filled⟩ := h
    refine ⟨?_, Nat.min_le_right _ _, Nat.mod_lt _ (by decide), fun _ => by simp only at *; omega⟩
    simp only
    split
    · rw [List.length_append, List.length_singleton]; omega
    · rw [List.length_set]; omega

/-- The entry written is the newest (R66, R68). -/
theorem write_newest (h : r.Placed) (free : r.frozenBy = none) (e : Entry) :
    (r.write e).newest = some { entry := e, intact := true } := by
  rw [h.write_eq free]
  obtain ⟨count, size, index, filled⟩ := h
  have place : ((r.writeIndex + 1) % 2048 + ringSize - 1) % ringSize = r.writeIndex := by rw [ringSize]; omega
  rw [Ring.newest, if_neg (by simp only; omega), Ring.slot, place]
  simp only
  split
  · next room => rw [filled room, count, List.getElem?_concat_length]
  · rw [List.getElem?_set_self (by omega)]

/-- A write appends its entry to those held, and drops the oldest of a full ring (R66, R68). -/
theorem write_held (h : r.Placed) (free : r.frozenBy = none) (e : Entry) :
    (r.write e).held.map Prod.snd = (if r.count < 2048 then r.held.map Prod.snd else (r.held.map Prod.snd).tail)
      ++ [{ entry := e, intact := true }] := by
  rw [(h.write e).held_slots, h.write_eq free, h.held_slots]
  obtain ⟨count, size, index, filled⟩ := h
  generalize ({ entry := e, intact := true } : Slot) = w
  simp only
  split
  · next room =>
    have length : (r.slots ++ [w]).length = r.count + 1 := by simp [count]
    rw [filled room, count, List.rotate_length, ← count]
    by_cases last : r.count + 1 = 2048
    · rw [last, Nat.mod_self, List.rotate_zero]
    · rw [Nat.mod_eq_of_lt (by omega), ← length, List.rotate_length]
  · have written : r.slots.set r.writeIndex w = (r.slots.take r.writeIndex ++ [w]) ++ r.slots.drop (r.writeIndex + 1) := by
      rw [List.set_eq_take_append_cons_drop, if_pos (by omega), List.append_cons]
    have former : (r.slots.take r.writeIndex ++ [w]).length = r.writeIndex + 1 := by simp; omega
    calc (r.slots.set r.writeIndex w).rotate ((r.writeIndex + 1) % 2048)
        = (r.slots.set r.writeIndex w).rotate (r.writeIndex + 1) := by
          rw [← List.rotate_mod (n := r.writeIndex + 1), List.length_set, show r.slots.length = 2048 by omega]
      _ = r.slots.drop (r.writeIndex + 1) ++ (r.slots.take r.writeIndex ++ [w]) := by
          rw [written, ← former, List.rotate_append_length_eq]
      _ = (r.slots.rotate r.writeIndex).tail ++ [w] := by
          rw [List.rotate_eq_drop_append_take (by omega), List.tail_append_of_ne_nil (by simp; omega), List.tail_drop, List.append_assoc]

end Ring.Placed

/-- Settles O47: the entries held are the written slots turned to the write index, and a write turns them one further. -/
theorem ringWriteKeepsOrder : Obligations.RingWriteKeepsOrder := by
  intro r e h
  obtain ⟨placed, _⟩ := Ring.ok_iff.mp h
  exact ⟨fun id frozen => by rw [Ring.write, frozen], fun free => ⟨placed.write_newest free e, placed.write_held free e⟩⟩

/-- A write of a force within its limits keeps a ring well formed (R62, R66). -/
theorem Ring.Ok.write {r : Ring} (h : r.Ok) {e : Entry} (force : -3000 ≤ e.force ∧ e.force ≤ 30000) : (r.write e).Ok := by
  obtain ⟨placed, forces⟩ := Ring.ok_iff.mp h
  refine Ring.ok_iff.mpr ⟨placed.write e, fun w hw => ?_⟩
  cases frozen : r.frozenBy with
  | some id => rw [Ring.write, frozen] at hw; exact forces w hw
  | none =>
    rw [placed.write_eq frozen] at hw
    simp only at hw
    split at hw
    · rcases List.mem_append.mp hw with hw | hw
      · exact forces w hw
      · rw [List.mem_singleton.mp hw]; exact force
    · rcases List.mem_or_eq_of_mem_set hw with hw | rfl
      · exact forces w hw
      · exact force

end Sys2Proof.Machine
end

section
/-! PROOFS. The contribution of a channel and the combined force (R61, R62). -/

namespace Sys2Proof.Machine

/-- A product divided by 1024 goes to the nearest integer, and from halfway away from zero (R61). -/
theorem roundedContribution_nearest (p : Int) : (1024 * roundedContribution p - p).natAbs ≤ 512
    ∧ ((1024 * roundedContribution p - p).natAbs = 512 → p.natAbs < (1024 * roundedContribution p).natAbs) := by
  unfold roundedContribution
  split <;> omega

/-- The contribution of a channel that holds a value (R61). -/
theorem contribution_value {a : Assembler} {c : Chan} {v : BitVec 16} (e : LaneEntry) (h : a.raw[c] = some v) :
    contribution e a c = roundedContribution ((v.toInt - e.zeros[c]) * e.gains[c]) := by
  rw [contribution, h]

/-- The difference of two 16-bit values times a gain fits in 31 bits (R61). -/
theorem product_range {d : Int} {g : Nat} (hd : d.natAbs ≤ 65535) (hg : g ≤ 16383) : (d * g).natAbs ≤ 1073659905 := by
  rw [Int.natAbs_mul, Int.natAbs_natCast]
  exact Nat.mul_le_mul hd hg

theorem LaneEntry.Ok.difference_range {e : LaneEntry} (h : e.Ok) (v : BitVec 16) (c : Chan) :
    -65535 ≤ v.toInt - e.zeros[c] ∧ v.toInt - e.zeros[c] ≤ 65535 := by
  obtain ⟨_, _, _, zeros, _⟩ := h
  have := zeros c
  have := BitVec.le_toInt v
  have := BitVec.toInt_lt (x := v)
  omega

/-- A contribution is bounded by the rounded greatest product, also that of a channel without a value (R61). -/
theorem LaneEntry.Ok.contribution_range {e : LaneEntry} (h : e.Ok) (a : Assembler) (c : Chan) :
    (contribution e a c).natAbs ≤ 1048496 := by
  cases hv : a.raw[c] with
  | none => rw [contribution, hv]; exact Nat.zero_le _
  | some v =>
    obtain ⟨_, _, gains, _, _⟩ := id h
    have difference := h.difference_range v c
    have product := product_range (d := v.toInt - e.zeros[c]) (by omega) (gains c).2
    rw [contribution_value e hv]
    have nearest := (roundedContribution_nearest ((v.toInt - e.zeros[c]) * e.gains[c])).1
    omega

/-- The sum over the summation set, channel by channel (R62). -/
theorem forceSum_eq (e : LaneEntry) (a : Assembler) : forceSum e a =
    (if e.sumSet.getLsbD 0 then contribution e a 0 else 0) + (if e.sumSet.getLsbD 1 then contribution e a 1 else 0)
      + (if e.sumSet.getLsbD 2 then contribution e a 2 else 0) + (if e.sumSet.getLsbD 3 then contribution e a 3 else 0) := by
  have summed : ∀ ks : List Chan, ((ks.filter fun c => e.sumSet.getLsbD c.val).map (contribution e a)).sum =
      (ks.map fun c => if e.sumSet.getLsbD c.val then contribution e a c else 0).sum := fun ks => by
    induction ks with
    | nil => rfl
    | cons k ks ih => rw [List.filter_cons, List.map_cons, List.sum_cons, ← ih]; split <;> simp
  rw [forceSum, chansOf, summed]
  simp [allChans, add_assoc]

theorem forceSum_congr {e : LaneEntry} {a b : Assembler} (h : ∀ c : Chan, e.sumSet.getLsbD c.val = true → a.raw[c] = b.raw[c]) :
    forceSum e a = forceSum e b := by
  refine congrArg List.sum (List.map_congr_left fun c hc => ?_)
  rw [contribution, contribution, h c (List.mem_filter.mp hc).2]

theorem LaneEntry.Ok.forceSum_range {e : LaneEntry} (h : e.Ok) (a : Assembler) : (forceSum e a).natAbs ≤ 4193984 := by
  have part : ∀ c : Chan, ∀ b : Bool, (if b then contribution e a c else 0).natAbs ≤ 1048496 := fun c b => by
    cases b
    · exact Nat.zero_le _
    · exact h.contribution_range a c
  have := part 0 (e.sumSet.getLsbD 0)
  have := part 1 (e.sumSet.getLsbD 1)
  have := part 2 (e.sumSet.getLsbD 2)
  have := part 3 (e.sumSet.getLsbD 3)
  rw [forceSum_eq]
  omega

/-- The combined force lies within its limits (R62). -/
theorem combinedForce_range (sum : Int) : -3000 ≤ combinedForce sum ∧ combinedForce sum ≤ 30000 := by
  unfold combinedForce
  split
  · omega
  · split <;> omega

/-- SAT is set exactly when the sum is outside the limits (R62). -/
theorem satFlag_iff (sum : Int) : satFlag sum = true ↔ sum < -3000 ∨ 30000 < sum := by simp [satFlag]

/-- The factory entry of lane 1 with the greatest gain on every channel and this zero offset. -/
def steepLane (zero : Int) : LaneEntry := { factoryLane 0 with gains := Vector.replicate 4 16383, zeros := Vector.replicate 4 zero }

theorem LaneEntry.Ok.steepLane {zero : Int} (h : -32768 ≤ zero ∧ zero ≤ 32767) : (steepLane zero).Ok := by
  obtain ⟨sum, commit, _, _, latency⟩ := LaneEntry.Ok.factory 0
  exact ⟨sum, commit, fun c => by simp [Machine.steepLane], fun c => by simpa [Machine.steepLane] using h, latency⟩

/-- A buffer with this raw value on every channel. -/
def uniformBuffer (v : BitVec 16) : Assembler := { assemblerReset with raw := Vector.replicate 4 (some v) }

/-- Settles O46. The greatest contribution is that of raw value 32 767 with offset -32 768 and gain 16 383, and the least is that of the
same with both signs turned. -/
theorem contributionAndForce : Obligations.ContributionAndForce := by
  refine ⟨fun e a c v h hv => ?_, ⟨steepLane (-32768), steepLane 32767, uniformBuffer 32767#16, uniformBuffer 32768#16,
    .steepLane (by decide), .steepLane (by decide), by decide, by decide⟩, fun e a b h => forceSum_congr h, forceSum_eq,
    fun e a h => h.forceSum_range a, fun sum => ⟨fun lower upper => ?_, fun h => ?_, fun h => ?_⟩, fun s l => ⟨rfl, rfl⟩⟩
  · obtain ⟨_, _, gains, _, _⟩ := id h
    have difference := h.difference_range v c
    have range := h.contribution_range a c
    obtain ⟨near, half⟩ := roundedContribution_nearest ((v.toInt - e.zeros[c]) * e.gains[c])
    rw [← contribution_value e hv] at near half
    exact ⟨difference, product_range (by omega) (gains c).2, near, half, by omega, by omega⟩
  · exact ⟨by rw [combinedForce, if_neg (by omega), if_neg (by omega)], by simp [satFlag, lower, upper]⟩
  · exact ⟨if_pos h, (satFlag_iff sum).mpr (.inr h)⟩
  · exact ⟨by rw [combinedForce, if_neg (by omega), if_pos h], (satFlag_iff sum).mpr (.inl h)⟩

end Sys2Proof.Machine
end

section
/-! PROOFS. What the onset detectors and their reports write (R104 to R147). -/

namespace Sys2Proof.Machine

/-- The work of a detector and its reports writes the detectors, the records with the reservation, the events, and by a false start the
recall driver and the ports, and nothing else. -/
def WritesReports (s t : State) : Prop :=
  t = { s with detectors := t.detectors, seq := t.seq, reservation := t.reservation, events := t.events, driver := t.driver,
               ports := t.ports }

namespace WritesReports

theorem refl (s : State) : WritesReports s s := rfl

theorem trans {a b c : State} (h : WritesReports a b) (k : WritesReports b c) : WritesReports a c :=
  Eq.trans k (congrArg (fun x => { x with detectors := c.detectors, seq := c.seq, reservation := c.reservation, events := c.events,
                                          driver := c.driver, ports := c.ports }) h)

theorem rings {s t : State} (h : WritesReports s t) : t.rings = s.rings := (congrArg State.rings h :)

theorem assemblers {s t : State} (h : WritesReports s t) : t.assemblers = s.assemblers := (congrArg State.assemblers h :)

theorem forLanes {f : LaneIx → State → State} (h : ∀ l t, WritesReports t (f l t)) (ls : List LaneIx) (s : State) :
    WritesReports s (forLanes ls f s) := forLanes_induct (P := WritesReports s) ls (.refl s) fun l _ t ht => ht.trans (h l t)

theorem onlyRecords {s t : State} (h : OnlyRecords s t) : WritesReports s t := by
  obtain ⟨⟩ := s
  obtain ⟨⟩ := t
  obtain ⟨⟩ := h
  simp only at *
  subst_vars
  rfl

/-! ### The verdict unit (R134 to R147) -/

theorem place (k : EventKind) (l : Option LaneIx) (a : Nat) (v : BitVec 32) (s : State) : WritesReports s (place k l a v s) := rfl

theorem setDetector (s : State) (l : LaneIx) (d : Detector) : WritesReports s (s.setDetector l d) := rfl

theorem changeRecord (id : Nat) (f : Record → Record) (s : State) : WritesReports s (changeRecord id f s) :=
  .onlyRecords (.changeRecord id f s)

theorem lampOn (l : LaneIx) (s : State) : WritesReports s (lampOn l s) := by
  unfold Machine.lampOn
  split
  · rfl
  · split <;> rfl

theorem autoRecall (s : State) : WritesReports s (autoRecall s) := by
  unfold Machine.autoRecall
  split
  · rfl
  · split
    · exact (changeRecord _ _ s).trans rfl
    · rfl

theorem falseActs (l : LaneIx) (rt : Option Int) (s : State) : WritesReports s (falseActs l rt s) := by
  unfold Machine.falseActs
  split
  · rfl
  · have placed := fun a v => place .falseStart (some l) a v s
    simp only
    split
    · exact (placed _ _).trans ((lampOn l _).trans (autoRecall _))
    · exact placed _ _

theorem reportJudge (l : LaneIx) (onset : Time) (rt : Int) (f : LaneFlags) (s : State) :
    WritesReports s (reportJudge l onset rt f s) := by
  unfold Machine.reportJudge
  split
  · rfl
  · split
    · split
      · exact (changeRecord _ _ s).trans (falseActs _ _ _)
      · exact changeRecord _ _ s
    · exact .onlyRecords (.reportFlags l f s)

theorem reportHeld (l : LaneIx) (c : Crossing) (s : State) : WritesReports s (reportHeld l c s) := by
  unfold Machine.reportHeld
  split
  · rfl
  · simp only
    split
    · exact (changeRecord _ _ s).trans (falseActs _ _ _)
    · exact .onlyRecords (.reportFlags _ _ s)

/-! ### The onset detectors (R105 to R129) -/

theorem finalize (l : LaneIx) (s : State) : WritesReports s (finalize l s) :=
  (setDetector s l _).trans (.onlyRecords (.reportBaseline _ _ _ _ _))

theorem captureEntry (l : LaneIx) (e : Entry) (s : State) : WritesReports s (captureEntry l e s) := by
  unfold Machine.captureEntry
  simp only
  split
  · exact (setDetector s l _).trans (finalize l _)
  · rfl

theorem unsteadyTest (l : LaneIx) (e : Entry) (s : State) : WritesReports s (unsteadyTest l e s) := by
  unfold Machine.unsteadyTest
  simp only
  split
  · rfl
  · split
    · rfl
    · split
      · split
        · exact (setDetector s l _).trans (.trans (.onlyRecords (.reportFlags _ _ _)) (place _ _ _ _ _))
        · rfl
      · rfl

theorem confirm (l : LaneIx) (s : State) : WritesReports s (confirm l s) := by
  have fault : ∀ w : Walk, WritesReports s (match w.fault with | some i => checkFault l i s | none => s) := fun w => by
    cases w.fault <;> rfl
  unfold Machine.confirm
  simp only
  split
  · split
    · exact ((fault _).trans (setDetector _ l _)).trans (reportJudge _ _ _ _ _)
    · exact ((fault _).trans (setDetector _ l _)).trans (place _ _ _ _ _)
  · rfl

theorem countCrossing (l : LaneIx) (d : Detector) (s : State) : WritesReports s (countCrossing l d s) := by
  unfold Machine.countCrossing
  simp only
  split
  · exact (setDetector s l d).trans (confirm l _)
  · rfl

/-- An entry offered to a detector, in whatever state the detector is (R105). -/
theorem offerEntry (l : LaneIx) (e : Entry) (index : Option Nat) (s : State) : WritesReports s (offerEntry l e index s) := by
  unfold Machine.offerEntry
  split
  · split
    · rfl
    · exact captureEntry l e s
  · refine (unsteadyTest l e s).trans ?_
    unfold crossingTest
    simp only
    split
    · rfl
    · split
      · exact countCrossing l _ _
      · rfl
  · unfold persistenceEntry
    simp only
    split
    · rfl
    · split
      · exact countCrossing l _ s
      · rfl
  all_goals rfl

/-- What a detector does when the shot is fired (R111, R125). -/
theorem shotFired (t0 : Time) (l : LaneIx) (s : State) : WritesReports s (shotFired t0 l s) := by
  have unsure := fun d f => (setDetector s l d).trans (.onlyRecords (.reportUnsure l f _))
  unfold Machine.shotFired
  simp only
  split
  · split
    · exact unsure _ _
    · rfl
  · exact unsure _ _
  · split
    · exact unsure _ _
    · exact (setDetector s l _).trans (finalize l _)
  · rfl
  · rfl
  · split
    · rfl
    · exact (setDetector s l _).trans (reportJudge _ _ _ _ _)

theorem standDetector (l : LaneIx) (s : State) : WritesReports s (standDetector l s) := by
  unfold Machine.standDetector
  split
  · exact reportHeld l _ s
  · rfl

end WritesReports

end Sys2Proof.Machine
end

section
/-! PROOFS. The ends of a ZERO (R74 to R76). -/

namespace Sys2Proof.Machine

/-- A commit that is not the 64th counts (R74). -/
theorem zeroCommit_counts {s : State} {l : LaneIx} {z : ZeroRun} (h : s.zero l = some z) (hc : z.count ≠ 63) : zeroCommit l s =
    s.setZero l (some { z with count := z.count + 1, sums := zeroSums (s.lane l).sumSet (s.assembler l) z.sums }) := by
  simp only [zeroCommit, h]
  rw [if_neg (by omega)]

/-- The 64th commit writes the means as the offsets (R75). -/
theorem zeroCommit_last {s : State} {l : LaneIx} {z : ZeroRun} {zs : Vector Int 4} (h : s.zero l = some z) (hc : z.count = 63)
    (hs : zs = zeroOffsets (s.lane l) (zeroSums (s.lane l).sumSet (s.assembler l) z.sums)) : zeroCommit l s =
      place .zeroDone (some l) (openId s) 0#32 ((s.setLane l { s.lane l with zeros := zs }).setZero l none) := by
  simp only [zeroCommit, h, hs]
  rw [if_pos (by omega)]

theorem zeroSums_value {sumSet : BitVec 4} {a : Assembler} {c : Chan} {v : BitVec 16} (sums : Vector Int 4)
    (hs : sumSet.getLsbD c.val = true) (hv : a.raw[c] = some v) : (zeroSums sumSet a sums)[c] = sums[c] + v.toInt := by
  simp only [zeroSums, Fin.getElem_fin, Vector.getElem_ofFn] at hv ⊢
  rw [if_pos hs, hv]

/-- The mean of 64 values goes to the nearest integer, and from halfway toward +infinity (R75). -/
theorem zeroMean_nearest (sum : Int) : -32 ≤ sum - 64 * zeroMean sum ∧ sum - 64 * zeroMean sum < 32 := by
  unfold zeroMean; omega

theorem zeroOffsets_mean {e : LaneEntry} {c : Chan} (sums : Vector Int 4) (h : e.sumSet.getLsbD c.val = true) :
    (zeroOffsets e sums)[c] = zeroMean sums[c] := by
  simp only [zeroOffsets, Fin.getElem_fin, Vector.getElem_ofFn]
  exact if_pos h

theorem zeroOffsets_kept {e : LaneEntry} {c : Chan} (sums : Vector Int 4) (h : e.sumSet.getLsbD c.val = false) :
    (zeroOffsets e sums)[c] = e.zeros[c] := by
  simp only [zeroOffsets, Fin.getElem_fin, Vector.getElem_ofFn]
  exact if_neg (Bool.eq_false_iff.mp h)

/-- Settles O16. -/
theorem zeroEnds : Obligations.ZeroEnds := by
  refine ⟨fun s l z hr hz due => ?_, fun s l z hz hc => ?_, fun s l z hz hc => ?_⟩
  · refine (live_running _ hr).trans (congrArg _ ?_)
    simp only [zeroTimeoutStep, hz, if_pos due]
    exact failZero_some _ (by simp [hz])
  · refine ⟨_, rfl, ?_⟩
    obtain ⟨zs, means⟩ : ∃ zs, zs = zeroOffsets (s.lane l) (zeroSums (s.lane l).sumSet (s.assembler l) z.sums) := ⟨_, rfl⟩
    rw [zeroCommit_last hz hc means]
    refine ⟨?_, rfl, fun k hk => ?_, zs, ?_, fun c => ⟨fun hs => means ▸ zeroOffsets_kept _ hs, fun hs v hv => ?_⟩⟩
    · exact (State.setZero_zero _ l l none).trans (if_pos rfl)
    · exact (State.setLane_lane s l k _).trans (if_neg (Ne.symm hk))
    · exact (State.setLane_lane s l l _).trans (if_pos rfl)
    · rw [means, zeroOffsets_mean _ hs, ← zeroSums_value _ hs hv]
      exact zeroMean_nearest _
  · exact ⟨_, zeroCommit_counts hz (by omega), fun c hs v hv => zeroSums_value _ hs hv⟩

end Sys2Proof.Machine
end

section
/-! PROOFS. A sample that commits an entry (R59 to R66, R105). -/

namespace Sys2Proof.Machine

theorem staleFlag_iff (set : BitVec 4) (a : Assembler) :
    staleFlag set a = true ↔ ∃ k : Chan, set.getLsbD k.val = true ∧ a.fresh[k] = false := by
  simp [staleFlag, chansOf, mem_allChans]

theorem ovlFlag_iff (set : BitVec 4) (a : Assembler) :
    ovlFlag set a = true ↔ ∃ k : Chan, set.getLsbD k.val = true ∧ a.overload[k] = true := by
  simp [ovlFlag, chansOf, mem_allChans]

/-- GAP (R64). -/
theorem gapFlag_iff (rate : SampleRate) (now : Time) (a : Assembler) (r : Ring) : gapFlag rate now a r = true ↔
    a.gapPending = true ∨ ∃ w, r.newest = some w ∧ (w.intact = false ∨ gapLimit rate < tdiff now w.entry.time) := by
  unfold gapFlag
  cases r.newest <;> simp

theorem Ring.nextIndex_eq (r : Ring) : r.nextIndex = if r.frozenBy = none then some r.writeIndex else none := by
  unfold Ring.nextIndex
  cases r.frozenBy <;> rfl

/-- A sample on a commit channel that leaves no summation channel without a value commits (R59). -/
theorem commits_true {e : LaneEntry} {c : Chan} {a : Assembler} (hc : e.commitSet.getLsbD c.val = true)
    (hs : ∀ k : Chan, e.sumSet.getLsbD k.val = true → a.raw[k] ≠ none) : commits e c a = true := by
  rw [commits, hc, Bool.true_and, List.all_eq_true]
  exact fun k hk => Option.isSome_iff_ne_none.mpr (hs k (List.mem_filter.mp hk).2)

theorem zeroCommit_none {l : LaneIx} {s : State} (h : s.zero l = none) : zeroCommit l s = s := by simp only [zeroCommit, h]

/-- A commit offered to a ZERO writes the lane map, the ZERO and the events alone (R74, R75). -/
theorem zeroCommit_writes (l : LaneIx) (s : State) : zeroCommit l s =
    { s with laneMap := (zeroCommit l s).laneMap, zeros := (zeroCommit l s).zeros, events := (zeroCommit l s).events } := by
  unfold zeroCommit
  split
  · rfl
  · simp only; split <;> rfl

/-- A commit of a lane whose buffer has become `a`: the entry goes to the ring, the detector and the ZERO, and the buffer's marks are
cleared (R60). -/
theorem commit_setAssembler {s t : State} {l : LaneIx} {a : Assembler} {e : Entry} (he : e = committedEntry l (s.setAssembler l a))
    (ht : t = zeroCommit l (offerEntry l e (s.ring l).nextIndex ((s.setAssembler l a).setRing l ((s.ring l).write e)))) :
    commit l (s.setAssembler l a) = { t with assemblers := s.assemblers.set l a.committed } := by
  have buffers : t.assemblers = s.assemblers.set l a := by
    rw [ht, zeroCommit_writes]
    exact (WritesReports.offerEntry l e _ _).assemblers
  have buffer : t.assembler l = a := by simp [State.assembler, buffers]
  have committed : commit l (s.setAssembler l a) = t.setAssembler l (t.assembler l).committed := by rw [ht, he]; rfl
  rw [committed, buffer, State.setAssembler, buffers, Vector.set_set]

/-- The entry that a commit makes of the buffer `a` (R60 to R64). -/
theorem committedEntry_setAssembler (l : LaneIx) (a : Assembler) (s : State) : committedEntry l (s.setAssembler l a) =
    { time := s.clock, force := combinedForce (forceSum (s.lane l) a), stale := staleFlag (s.lane l).sumSet a,
      gap := gapFlag s.line.rate s.clock a (s.ring l), sat := satFlag (forceSum (s.lane l) a), ovl := ovlFlag (s.lane l).sumSet a } := by
  have buffer : (s.setAssembler l a).assembler l = a := (State.setAssembler_assembler s l l a).trans (if_pos rfl)
  simp only [committedEntry, buffer]
  rfl

/-- A sample frame of a STREAMING port with a lane: the port takes the frame's marks and sequence, the lane the sample (R22 to R25). -/
theorem exec_sampleFrame {s : State} {p : PortIx} {l : LaneIx} {c : Chan} {sq : BitVec 4} {jump : Bool} {y : Port} (v : BitVec 16)
    (ovl : Bool) (hr : s.resetHeld = false) (hl : (s.port p).link = .streaming) (hin : (s.port p).inbound = inboundEmpty)
    (hb : beforeBreakEnd s.clock (s.port p) = false) (hm : mappedLane s p = some l) (hj : isJump (s.port p).expected[c] sq = jump)
    (hy : y = ((s.port p).validFrame s.clock).track c sq) :
    exec (.sampleFrame p (linkRxOf (sampleFields c sq v ovl))) s =
      .next (takeSample l { chan := c, raw := v, overload := ovl, jump := jump } (s.setPort p y)) := by
  subst hy
  refine (live_running _ hr).trans (congrArg _ ((linkReceive_valid _ (by simp [hl]) hin hb).trans ?_))
  exact (sampleTaken_setPort (x := (s.port p).validFrame s.clock) c sq v ovl hl hj).2 l hm

/-- A sample on a commit channel is taken into the buffer, with a gap pending when it jumps, and commits (R57, R59). -/
theorem takeSample_commits {s : State} {l : LaneIx} {c : Chan} {v : BitVec 16} {ovl jump : Bool} {a : Assembler}
    (hc : (s.lane l).commitSet.getLsbD c.val = true)
    (ha : a = { s.assembler l with raw := (s.assembler l).raw.set c (some v), fresh := (s.assembler l).fresh.set c true,
                                   overload := (s.assembler l).overload.set c ovl,
                                   gapPending := (s.assembler l).gapPending || jump })
    (full : ∀ k : Chan, (s.lane l).sumSet.getLsbD k.val = true → a.raw[k] ≠ none) :
    takeSample l { chan := c, raw := v, overload := ovl, jump := jump } s = commit l (s.setAssembler l a) := by
  have taken : (s.assembler l).take (s.lane l) { chan := c, raw := v, overload := ovl, jump := jump } = a := by
    rw [Assembler.take_eq, ha, hc, Bool.or_true, Bool.and_true]
  simp only [takeSample, taken, commits_true hc full, if_true]

/-- Settles O36. -/
theorem sampleCommitsEntry : Obligations.SampleCommitsEntry := by
  refine ⟨?_, fun s l e index h => ?_, fun s l h => zeroCommit_none h⟩
  · intro s p l c sq v ovl jump a y hr hl hin hw hlow hm hc hjump hy ha full
    have hj : isJump (s.port p).expected[c] sq = jump := by rw [Bool.eq_iff_iff, isJump_iff, hjump]
    have port : y = ((s.port p).validFrame s.clock).track c sq := by rw [Port.validFrame_streaming _ hl, hy, ← hj]; rfl
    refine ⟨committedEntry l ((s.setPort p y).setAssembler l a), _, ?_, rfl, ?_⟩
    · rw [exec_sampleFrame v ovl hr hl hin (beforeBreakEnd_false hw hlow) hm hj port, takeSample_commits (s := s.setPort p y) hc ha full,
        commit_setAssembler rfl rfl, Ring.nextIndex_eq]
      rfl
    · rw [committedEntry_setAssembler]
      refine ⟨rfl, rfl, satFlag_iff _, staleFlag_iff _ a, ovlFlag_iff _ a, (gapFlag_iff _ _ a _).trans ?_⟩
      rw [ha, Bool.or_eq_true, or_assoc]
      rfl
  · rcases h with h | h | h <;> simp only [offerEntry, h]

end Sys2Proof.Machine
end

section
/-! PROOFS. What leaves the lane rings as they are. -/

namespace Sys2Proof.Machine

/-! ### The shared operations -/

theorem forLanes_rings {f : LaneIx → State → State} (h : ∀ l t, (f l t).rings = t.rings) (ls : List LaneIx) (s : State) :
    (forLanes ls f s).rings = s.rings :=
  forLanes_induct (P := fun t => t.rings = s.rings) ls rfl fun l _ t ht => (h l t).trans ht

theorem forPorts_rings {f : PortIx → State → State} (h : ∀ p t, (f p t).rings = t.rings) (ps : List PortIx) (s : State) :
    (forPorts ps f s).rings = s.rings :=
  forPorts_induct (P := fun t => t.rings = s.rings) ps rfl fun p _ t ht => (h p t).trans ht

theorem lampOff_rings (p : PortIx) (s : State) : (lampOff p s).rings = s.rings := by
  unfold lampOff; split <;> rfl

@[simp] theorem pulseRequest_rings (manual : Bool) (id : Nat) (s : State) : (pulseRequest manual id s).rings = s.rings := rfl

/-! ### The lane link ports (R26 to R40) -/

@[simp] theorem failZero_rings (l : LaneIx) (reason : BitVec 32) (s : State) : (failZero l reason s).rings = s.rings := by
  unfold failZero; split <;> rfl

@[simp] theorem linkReset_rings (p : PortIx) (lane : Option LaneIx) (s : State) : (linkReset p lane s).rings = s.rings := by
  rw [linkReset_writes]

@[simp] theorem portStreamEnded_rings (p : PortIx) (lane : Option LaneIx) (s : State) :
    (portStreamEnded p lane s).rings = s.rings := (OnlyRecords.portStreamEnded p lane s).rings

@[simp] theorem tableReset_rings (p : PortIx) (before lane : Option LaneIx) (s : State) :
    (tableReset p before lane s).rings = s.rings := by
  unfold tableReset; split <;> simp

@[simp] theorem enterLost_rings (p : PortIx) (s : State) : (enterLost p s).rings = s.rings := by
  simp [enterLost, linkEvent]

@[simp] theorem enterAbsent_rings (p : PortIx) (s : State) : (enterAbsent p s).rings = s.rings := by
  have notice : (if (s.port p).link = .streaming then portStreamEnded p (mappedLane s p) (linkEvent .linkLost p s) else s).rings
      = s.rings := by
    split <;> simp [linkEvent]
  unfold enterAbsent
  simp only
  rw [← notice]
  generalize (if (s.port p).link = .streaming then _ else s) = t
  cases mappedLane s p with
  | none => rfl
  | some l => simp only; split <;> simp [clearAssembler]

theorem completeHello_rings (p : PortIx) (s : State) : (completeHello p s).rings = s.rings := by
  unfold completeHello; split <;> rfl

theorem silenceEndStep_rings (p : PortIx) (s : State) : (silenceEndStep p s).rings = s.rings := by
  unfold silenceEndStep; split <;> simp

theorem helloWaitEndStep_rings (p : PortIx) (s : State) : (helloWaitEndStep p s).rings = s.rings := by
  unfold helloWaitEndStep; split <;> simp

theorem presenceActiveStep_rings (p : PortIx) (s : State) : (presenceActiveStep p s).rings = s.rings := by
  unfold presenceActiveStep
  split
  · simp only; split <;> simp
  · rfl

theorem presenceInactiveStep_rings (p : PortIx) (s : State) : (presenceInactiveStep p s).rings = s.rings := by
  unfold presenceInactiveStep
  split
  · simp only; split <;> simp
  · rfl

theorem breakEndStep_rings (p : PortIx) (s : State) : (breakEndStep p s).rings = s.rings := by
  unfold breakEndStep; split <;> rfl

theorem outboundFrameSentStep_rings (p : PortIx) (s : State) : (outboundFrameSentStep p s).rings = s.rings := by
  unfold outboundFrameSentStep; split <;> rfl

/-! ### Samples and link frames (R21, R22, R30, R33, R74 to R76) -/

theorem zeroCommit_rings (l : LaneIx) (s : State) : (zeroCommit l s).rings = s.rings := by
  rw [zeroCommit_writes]

theorem zeroTimeoutStep_rings (l : LaneIx) (s : State) : (zeroTimeoutStep l s).rings = s.rings := by
  rw [zeroTimeoutStep_writes]

theorem badFrame_rings (parity : Bool) (p : PortIx) (s : State) : (badFrame parity p s).rings = s.rings := by
  rw [badFrame_eq]; split <;> simp

theorem helloTaken_rings (p : PortIx) (channels : Nat) (s : State) : (helloTaken p channels s).rings = s.rings := by
  unfold helloTaken
  simp only
  split
  · split <;> rfl
  · split
    · split <;> simp
    · rfl
  all_goals rfl

theorem aliveTaken_rings (p : PortIx) (s : State) : (aliveTaken p s).rings = s.rings := by
  unfold aliveTaken; simp only; split <;> rfl

/-! ### The pistol and the attempt (R5 to R8, R90 to R95) -/

theorem startAttempt_rings (te : Time) (r : Record) (s : State) : (startAttempt te r s).rings = s.rings := by
  unfold startAttempt
  rw [(WritesReports.forLanes (.shotFired te) r.lanes _).rings]
  exact changeRecord_rings r.id _ s

theorem shotMeaning_rings (te : Time) (s : State) : (shotMeaning te s).rings = s.rings := by
  have recalled : ∀ r, (recallShot te r s).rings = s.rings := fun r => by simp [recallShot]
  have unarmed : (unarmedShot s).rings = s.rings := rfl
  unfold shotMeaning
  split
  · split
    · split
      · exact startAttempt_rings te _ s
      · exact unarmed
    · exact recalled _
    · exact unarmed
  · split
    · exact recalled _
    · exact unarmed

theorem pistolEdgeStep_rings (s : State) : (pistolEdgeStep s).rings = s.rings := by
  unfold pistolEdgeStep; split <;> rfl

theorem shotAcceptedStep_rings (s : State) : (shotAcceptedStep s).rings = s.rings := by
  unfold shotAcceptedStep
  split
  · split
    · exact shotMeaning_rings _ _
    · rfl
  · rfl

theorem glitchStep_rings (s : State) : (glitchStep s).rings = s.rings := by
  unfold glitchStep
  split
  · split <;> rfl
  · rfl

theorem pistolHoldEndStep_rings (s : State) : (pistolHoldEndStep s).rings = s.rings := by
  unfold pistolHoldEndStep; split <;> rfl

theorem recallPulseEndStep_rings (s : State) : (recallPulseEndStep s).rings = s.rings := by
  rw [recallPulseEndStep_writes]

theorem settleEndStep_rings (s : State) : (settleEndStep s).rings = s.rings := by
  unfold settleEndStep; split <;> rfl

theorem recallShotEndStep_rings (s : State) : (recallShotEndStep s).rings = s.rings := by
  unfold recallShotEndStep; split <;> rfl

theorem heldAgeEndStep_rings (l : LaneIx) (s : State) : (heldAgeEndStep l s).rings = s.rings := by
  unfold heldAgeEndStep; split <;> rfl

theorem setAccepted_rings (r : Record) (s : State) : (setAccepted r s).rings = s.rings := by
  unfold setAccepted
  simp only
  split <;> simp

theorem removeOldest_rings (s : State) : (removeOldest s).rings = s.rings := by
  unfold removeOldest
  split
  · split
    · rw [notice_eq]
    · rfl
  · rfl

theorem marksLink_rings (l : LaneIx) (s : State) : (marksLink l s).rings = s.rings := by
  unfold marksLink
  split
  · rfl
  · exact (OnlyRecords.streamEnded l s).rings

/-! ### The store port (R191, R192, R195) -/

@[simp] theorem endLoad_rings (outcome : StoreState) (copy : Option LoadCopy) (marker : Option Nat) (s : State) :
    (endLoad outcome copy marker s).rings = s.rings := by
  unfold endLoad
  rw [forPorts_rings completeHello_rings]
  cases copy <;> rfl

theorem loadDeadlineStep_rings (s : State) : (loadDeadlineStep s).rings = s.rings := by
  unfold loadDeadlineStep; split <;> simp

theorem loadAddressStep_rings (s : State) : (loadAddressStep s).rings = s.rings := by
  unfold loadAddressStep; split <;> rfl

theorem loadReadStep_rings (taken : Option (Vector Byte 16)) (s : State) : (loadReadStep taken s).rings = s.rings := by
  unfold loadReadStep
  split
  · split
    · simp
    · split <;> simp
  · rfl

theorem beginSave_rings (image : List Byte) (s : State) : (beginSave image s).rings = s.rings := by
  unfold beginSave; split <;> rfl

theorem saveTakenStep_rings (s : State) : (saveTakenStep s).rings = s.rings := by
  unfold saveTakenStep; split <;> rfl

theorem saveStoredStep_rings (s : State) : (saveStoredStep s).rings = s.rings := by
  unfold saveStoredStep
  split
  · split
    · rfl
    · split <;> rfl
  · rfl

theorem saveDeadlineStep_rings (s : State) : (saveDeadlineStep s).rings = s.rings := by
  rw [(saveDeadlineStep_spec s).1]

/-! ### The writers of the rings' marks (R88, R96, R97) -/

/-- STAND freezes the rings of the record's lanes, and does nothing more to a ring (R69, R96). -/
theorem standClose_rings (r : Record) (s : State) : (standClose r s).rings = (s.mapRings r.lanes (Ring.freeze r.id)).rings := by
  simp [standClose, (WritesReports.forLanes .standDetector r.lanes s).rings]

/-- The window close freezes the rings of the record's lanes, and does nothing more to a ring (R69, R97). -/
theorem windowClose_rings (r : Record) (s : State) : (windowClose r s).rings = (s.mapRings r.lanes (Ring.freeze r.id)).rings := by
  simp [windowClose, (endWatches_frame r.lanes s).2.rings]

/-- MARKS releases every ring, and does nothing more to a ring (R70, R88). -/
theorem marksAccepted_rings (heat : Nat) (lanes : List LaneIx) (s : State) :
    (marksAccepted heat lanes s).rings = s.rings.map Ring.release := by
  unfold marksAccepted
  simp only [forLanes_rings marksLink_rings, State.mapDetectors_rings, forPorts_rings lampOff_rings, releaseRings,
    forLanes_rings fun l t => failZero_rings l _ t, removeOldest_rings]

/-- The first tick brings link resets and the load, neither of which concerns a ring (R197). -/
theorem firstTick_rings (pins : Pins) (s : State) : (firstTick pins s).rings = s.rings := by
  obtain ⟨_, _, _, _, _, e⟩ := firstTick_writes pins s
  rw [e]

/-! ### The requests but MARKS and STAND (R173) -/

theorem traceFaults_rings (l : LaneIx) (read : List (Nat × Slot)) (s : State) : (traceFaults l read s).rings = s.rings :=
  List.foldlRecOn (motive := fun t : State => t.rings = s.rings) _ _ rfl fun _ ht _ _ => ht

theorem laneSetResets_rings (l : LaneIx) (old new : LaneEntry) (s : State) : (laneSetResets l old new s).rings = s.rings := by
  have reset : ∀ o before lane t, (resetPort o before lane t).rings = t.rings := fun o before lane t => by
    cases o with
    | none => rfl
    | some p => exact tableReset_rings p before lane t
  rw [laneSetResets_eq]
  split
  · split <;> simp only [reset]
  · simp only [reset]

theorem lineSetAccepted_rings (c : LineSettings) (s : State) : (lineSetAccepted c s).rings = s.rings := by
  unfold lineSetAccepted
  simp only
  split
  · rfl
  · exact forPorts_rings (fun p t => tableReset_rings p _ _ t) allPorts _

theorem ruleAccepted_rings (id : Nat) (l : LaneIx) (d : Decision) (s : State) : (ruleAccepted id l d s).rings = s.rings :=
  changeRecord_rings id _ s

theorem saveAccepted_rings (s : State) : (saveAccepted s).rings = s.rings := beginSave_rings _ _

/-- The owner of every request but MARKS and STAND leaves the rings alone, whether it accepts or refuses. -/
theorem serveKind_rings {k : Kind} (marks : k ≠ .marks) (stand : k ≠ .stand) (payload : List Byte) (s : State) :
    (serveKind k payload s).state.rings = s.rings := by
  cases k
  case marks => exact absurd rfl marks
  case stand => exact absurd rfl stand
  case status => simp only [serveKind, statusServe]; (repeat' split) <;> simp [accepted, refuse]
  case events => simp only [serveKind, eventsServe]; (repeat' split) <;> rfl
  case port => simp only [serveKind, portServe]; (repeat' split) <;> simp [accepted, refuse]
  case laneSet => simp only [serveKind, laneSetServe]; (repeat' split) <;> simp [accepted, refuse, laneSetAccepted, laneSetResets_rings]
  case laneGet => simp only [serveKind, laneGetServe]; (repeat' split) <;> rfl
  case profileSet => simp only [serveKind, profileSetServe]; (repeat' split) <;> rfl
  case profileGet => simp only [serveKind, profileGetServe]; (repeat' split) <;> rfl
  case lineSet => simp only [serveKind, lineSetServe]; (repeat' split) <;> simp [accepted, refuse, lineSetAccepted_rings]
  case lineGet => simp only [serveKind, lineGetServe]; split <;> rfl
  case zero => simp only [serveKind, zeroServe]; (repeat' split) <;> rfl
  case set => simp only [serveKind, setRequest]; (repeat' split) <;> simp [accepted, refuse, setAccepted_rings]
  case record => simp only [serveKind, recordRequest]; (repeat' split) <;> rfl
  case recallRequest => simp only [serveKind, recallServe]; (repeat' split) <;> simp [accepted, refuse]
  case reserve => simp only [serveKind, reserveServe]; (repeat' split) <;> rfl
  case rule => simp only [serveKind, ruleServe]; (repeat' split) <;> simp [accepted, refuse, ruleAccepted_rings]
  case trace => simp only [serveKind, traceServe]; (repeat' split) <;> simp [traceAccepted, accepted, refuse, traceFaults_rings]
  case storeSave => simp only [serveKind, storeSaveServe]; (repeat' split) <;> simp [accepted, refuse, saveAccepted_rings]
  case restart => simp only [serveKind, restartServe]; split <;> rfl

end Sys2Proof.Machine
end

section
/-! PROOFS. What the host line interface keeps: an invariant that its own fields do not concern, that every served request keeps and that
a reset meets (R166 to R178, R196). -/

namespace Sys2Proof.Machine

/-- A property of states that the host line interface cannot break but by a request it has served. -/
structure HostKeeps (P : State → Prop) : Prop where
  host  : ∀ {s : State} (x : HostLine), P s → P { s with host := x }
  serve : ∀ {s : State} (code : Byte) (payload : List Byte), P s → P (serveRequest code payload s).state
  reset : ∀ (pins : Pins) (held : Bool) (pending : List Instr), P (State.afterReset pins held pending)

namespace HostKeeps

variable {P : State → Prop} (keeps : HostKeeps P) {s : State}
include keeps

theorem requestTaken (a tag code : Byte) (payload : List Byte) (h : P s) : P (requestTaken a tag code payload s) := by
  unfold Machine.requestTaken
  simp only
  split
  · exact keeps.reset _ _ _
  · exact keeps.host _ (keeps.serve code payload (keeps.host _ h))

theorem receivePlace (frame : List Byte) (h : P s) : P (receivePlace frame s) := by
  unfold Machine.receivePlace
  split
  · exact keeps.host _ h
  · split
    · unfold frameEnded
      simp only
      split
      · exact keeps.requestTaken _ _ _ _ h
      · exact keeps.host _ h
    · exact keeps.host _ h

/-- Whatever the receive state, a byte writes the host line interface or completes a request (R167 to R171). -/
theorem hostByte (b : HostByte) (h : P s) : P (hostByte b s) := by
  have written := fun x => keeps.host x h
  unfold Machine.hostByte takeHostByte
  split
  · exact h
  · split
    · split
      · exact written _
      · exact h
    · unfold receiveByte
      split
      · exact written _
      · split
        · split <;> exact written _
        · exact keeps.receivePlace _ h
    · unfold muteHeaderByte
      split
      · split <;> exact written _
      · exact written _
    · unfold muteBodyByte
      split <;> exact written _

theorem hostBytes (bytes : List HostByte) (h : P s) : P (hostBytes bytes s) :=
  List.foldlRecOn bytes _ h fun _ ht b _ => keeps.hostByte b ht

theorem quietPassed (h : P s) : P (quietPassed s) := by
  unfold Machine.quietPassed
  split
  · exact h
  all_goals exact keeps.host _ h

theorem requestArrives (code : Byte) (r : Request) (h : P s) : P (requestArrives code r s) := by
  unfold Machine.requestArrives
  split
  · exact keeps.requestTaken _ _ _ _ h
  · exact keeps.hostBytes _ h

theorem replyStartStep (h : P s) : P (replyStartStep s) := by
  unfold Machine.replyStartStep
  split
  · split
    · exact keeps.host _ h
    · exact h
  · exact h

theorem replyOver (h : P s) : P (replyOver s) := by
  unfold Machine.replyOver
  simp only
  split
  · exact keeps.reset _ _ _
  · exact keeps.host _ h

theorem replySentStep (h : P s) : P (replySentStep s) := by
  unfold Machine.replySentStep
  split
  · exact keeps.replyOver h
  · exact h

theorem replyAbandonedStep (h : P s) : P (replyAbandonedStep s) := by
  unfold Machine.replyAbandonedStep
  split
  · split
    · exact keeps.replyOver h
    · exact h
  · exact h

end HostKeeps

end Sys2Proof.Machine
end

section
/-! PROOFS. Every command keeps the lane rings well formed (R62, R65 to R67, R69, R70). -/

namespace Sys2Proof.Machine

/-! ### The operations of a ring but the write (R67, R69, R70) -/

theorem Ring.Ok.reset : ringReset.Ok := ⟨rfl, by decide, by decide, fun _ => rfl, fun _ h => by cases h⟩

/-- Freezing and releasing write the mark alone (R69, R70). -/
theorem Ring.Ok.mark {r : Ring} (h : r.Ok) (id : Option Nat) : ({ r with frozenBy := id } : Ring).Ok :=
  ⟨h.count, h.size, h.index, h.filled, h.force⟩

/-- An upset changes no field of an entry (R67, entry 6). -/
theorem Ring.Ok.upset {r : Ring} (h : r.Ok) (i : Nat) : (r.upset i).Ok := by
  refine ⟨by simpa [Ring.upset] using h.count, h.size, h.index, h.filled, fun w hw => ?_⟩
  obtain ⟨j, hj⟩ := List.mem_iff_getElem?.mp hw
  rw [Ring.upset, List.getElem?_modify] at hj
  obtain ⟨v, hv, rfl⟩ := Option.map_eq_some_iff.mp hj
  have range := h.force v (List.mem_of_getElem? hv)
  split <;> exact range

/-! ### The writers of the rings -/

namespace RingsInv

/-- What leaves the rings alone keeps them well formed. -/
theorem kept {s t : State} (h : RingsInv s) (e : t.rings = s.rings) : RingsInv t := fun l => by
  rw [State.ring, e]; exact h l

theorem afterReset (pins : Pins) (held : Bool) (pending : List Instr) : RingsInv (State.afterReset pins held pending) := fun l => by
  rw [State.ring, State.afterReset, Fin.getElem_fin, Vector.getElem_replicate]; exact .reset

theorem setRing {s : State} (h : RingsInv s) {l : LaneIx} {r : Ring} (ok : r.Ok) : RingsInv (s.setRing l r) := fun k => by
  rw [State.setRing_ring]
  split
  · exact ok
  · exact h k

theorem freeze {s : State} (h : RingsInv s) (ls : List LaneIx) (id : Nat) : RingsInv (s.mapRings ls (Ring.freeze id)) := fun l => by
  rw [State.mapRings_ring]
  split
  · exact (h l).mark _
  · exact h l

theorem release {s : State} (h : RingsInv s) : RingsInv { s with rings := s.rings.map Ring.release } := fun l => by
  rw [State.ring, Fin.getElem_fin, Vector.getElem_map]; exact (h l).mark none

theorem applyUpsets {s : State} (h : RingsInv s) (upsets : List (LaneIx × Nat)) : RingsInv (applyUpsets upsets s) :=
  List.foldlRecOn upsets _ h fun _ ht u _ => ht.setRing ((ht u.1).upset u.2)

/-- The entry that a commit writes has its force within the limits, by saturation (R60, R62, R66). -/
theorem commit {s : State} (h : RingsInv s) (l : LaneIx) : RingsInv (commit l s) := by
  have written : RingsInv (s.setRing l ((s.ring l).write (committedEntry l s))) := h.setRing ((h l).write (combinedForce_range _))
  exact written.kept ((zeroCommit_rings l _).trans (WritesReports.offerEntry l _ _ _).rings)

theorem windowCloseStep {s : State} (h : RingsInv s) : RingsInv (windowCloseStep s) := by
  unfold Machine.windowCloseStep
  split
  · split
    · split
      · exact (h.freeze _ _).kept (windowClose_rings _ s)
      · exact h
    · exact h
  · exact h

/-! ### Link frames (R21 to R25, R57 to R60) -/

theorem takeSample {s : State} (h : RingsInv s) (l : LaneIx) (x : Sample) : RingsInv (takeSample l x s) := by
  have taken : RingsInv (s.setAssembler l ((s.assembler l).take (s.lane l) x)) := h.kept rfl
  unfold Machine.takeSample
  simp only
  split
  · exact taken.commit l
  · exact taken

theorem sampleTaken {s : State} (h : RingsInv s) (p : PortIx) (c : Chan) (seq : BitVec 4) (raw : BitVec 16) (overload : Bool) :
    RingsInv (sampleTaken p c seq raw overload s) := by
  have tracked : RingsInv (s.setPort p ((s.port p).track c seq)) := h.kept rfl
  unfold Machine.sampleTaken
  simp only
  split
  · split
    · exact tracked.takeSample _ _
    · exact tracked
  · exact h

theorem frameComplete {s : State} (h : RingsInv s) (p : PortIx) (error early : Bool) (b0 b1 b2 b3 : Byte) :
    RingsInv (frameComplete p error early b0 b1 b2 b3 s) := by
  unfold Machine.frameComplete
  split
  · exact h
  · split
    · exact h.kept (badFrame_rings true p s)
    · split
      · have marked : RingsInv (s.setPort p ((s.port p).validFrame s.clock)) := h.kept rfl
        unfold validFrame
        cases linkUse (linkFields b0 b1 b2 b3) with
        | sample c seq raw overload => exact marked.sampleTaken p c seq raw overload
        | hello channels => exact marked.kept (helloTaken_rings p channels _)
        | alive => exact marked.kept (aliveTaken_rings p _)
        | discarded => exact marked
      · exact h.kept (badFrame_rings false p s)

theorem linkByte {s : State} (h : RingsInv s) (p : PortIx) (early : Bool) (b : RxByte) : RingsInv (linkByte p early b s) := by
  have emptied : RingsInv (setInbound p inboundEmpty s) := h.kept rfl
  unfold Machine.linkByte
  simp only
  split
  · exact h
  · split
    · split
      · exact h.kept rfl
      · refine h.kept ?_
        unfold beginFrame frameCut
        split
        · rfl
        · exact badFrame_rings _ p _
    · split
      · exact h
      · exact emptied.frameComplete p _ _ _ _ _ _
      · exact h.kept rfl

theorem linkReceive {s : State} (h : RingsInv s) (p : PortIx) (rx : LinkRx) : RingsInv (linkReceive p rx s) :=
  List.foldlRecOn rx.bytes _ h fun _ ht b _ => ht.linkByte p rx.early b

/-! ### The requests (R173) -/

theorem marksRequest {s : State} (h : RingsInv s) (payload : List Byte) : RingsInv (marksRequest payload s).state := by
  unfold Machine.marksRequest
  split
  · split
    · exact h
    · split
      · exact h
      · split
        · exact h
        · exact h.release.kept (marksAccepted_rings _ _ s)
  · exact h

theorem standRequest {s : State} (h : RingsInv s) (payload : List Byte) : RingsInv (standRequest payload s).state := by
  unfold Machine.standRequest
  split
  · split
    · exact (h.freeze _ _).kept (standClose_rings _ s)
    · exact h
  · exact h
  · exact h

theorem serveRequest {s : State} (h : RingsInv s) (code : Byte) (payload : List Byte) :
    RingsInv (serveRequest code payload s).state := by
  unfold Machine.serveRequest
  split
  · exact h
  · next k _ =>
    split
    · exact h
    · split
      · exact h
      · by_cases marks : k = .marks
        · subst marks; exact h.marksRequest payload
        · by_cases stand : k = .stand
          · subst stand; exact h.standRequest payload
          · exact h.kept (serveKind_rings marks stand payload s)

theorem hostKeeps : HostKeeps RingsInv :=
  ⟨fun _ h => h.kept rfl, fun code payload h => h.serveRequest code payload, afterReset⟩

/-! ### A tick (R1, R67) -/

/-- Of the events that a TICK takes only the window close writes a ring (entry 4). -/
theorem takeDue {s : State} (h : RingsInv s) : RingsInv (takeDue s) := by
  have presence : ∀ p t, (presenceInactiveStep p (presenceActiveStep p t)).rings = t.rings := fun p t =>
    (presenceInactiveStep_rings p _).trans (presenceActiveStep_rings p t)
  unfold Machine.takeDue
  simp only
  generalize ht : settleEndStep _ = t
  have before : t.rings = s.rings := by
    rw [← ht, settleEndStep_rings, forLanes_rings zeroTimeoutStep_rings, recallPulseEndStep_rings, forPorts_rings helloWaitEndStep_rings,
      forPorts_rings silenceEndStep_rings, forPorts_rings breakEndStep_rings, forPorts_rings presence, pistolHoldEndStep_rings,
      glitchStep_rings, shotAcceptedStep_rings, pistolEdgeStep_rings]
  refine hostKeeps.replyAbandonedStep ((h.kept before).windowCloseStep.kept ?_)
  rw [saveDeadlineStep_rings, loadDeadlineStep_rings, forLanes_rings heldAgeEndStep_rings, recallShotEndStep_rings]

theorem nextTick {s : State} (h : RingsInv s) (pins : Pins) (upsets : List (LaneIx × Nat)) : RingsInv (nextTick pins upsets s) := by
  have advanced : RingsInv (advance pins s) := h.kept rfl
  unfold Machine.nextTick
  split
  · exact advanced.applyUpsets upsets
  · exact h.kept (firstTick_rings pins s)

theorem tickStep {s : State} (h : RingsInv s) (pins : Pins) (upsets : List (LaneIx × Nat)) : RingsInv (tickStep pins upsets s) := by
  unfold Machine.tickStep
  split
  · exact h.takeDue.nextTick pins upsets
  · exact h.nextTick pins upsets

/-! ### Every command -/

/-- A command on the running part keeps the rings well formed when its meaning does; a held part does not change. -/
theorem live {f : State → State} {s t : State} (h : RingsInv s) (hf : RingsInv (f s)) (e : live f s = .next t) : RingsInv t := by
  unfold Machine.live at e
  split at e
  · cases e; exact h
  · cases e; exact hf

/-- A command whose meaning leaves the rings alone. -/
theorem live_kept {f : State → State} {s t : State} (h : RingsInv s) (hf : (f s).rings = s.rings) (e : Machine.live f s = .next t) :
    RingsInv t := h.live (h.kept hf) e

/-- Whatever the command, the state that it answers has its rings well formed. -/
theorem exec {c : Instr} {s t : State} (h : RingsInv s) (e : exec c s = .next t) : RingsInv t := by
  cases hr : requestOf c with
  | some request =>
    obtain ⟨code, r⟩ := request
    rw [exec_request hr] at e
    exact h.live (hostKeeps.requestArrives code r h) e
  | none =>
    cases c with
    | reset straps => cases e; exact afterReset _ _ _
    | resetPinAsserted => cases e; exact afterReset _ _ _
    | startUpFirstTick pins =>
      refine h.live_kept ?_ e
      unfold startUpFirstTickStep
      split
      · rfl
      · exact firstTick_rings pins s
    | tick pins upsets => exact h.live (h.tickStep pins upsets) e
    | requestFrameDropped bytes => exact h.live (hostKeeps.hostBytes bytes h) e
    | frameTimeout bytes =>
      exact h.live (f := fun t => quietPassed (hostBytes bytes t)) (hostKeeps.quietPassed (hostKeeps.hostBytes bytes h)) e
    | mutedFrame bytes quiet =>
      refine h.live (f := fun t => if quiet then quietPassed (hostBytes bytes t) else hostBytes bytes t) ?_ e
      split
      · exact hostKeeps.quietPassed (hostKeeps.hostBytes bytes h)
      · exact hostKeeps.hostBytes bytes h
    | replyStart => exact h.live (hostKeeps.replyStartStep h) e
    | replySent => exact h.live (hostKeeps.replySentStep h) e
    | replyAbandoned2ms => exact h.live (hostKeeps.replyAbandonedStep h) e
    | pistolEdge => exact h.live_kept (pistolEdgeStep_rings s) e
    | shotAccepted => exact h.live_kept (shotAcceptedStep_rings s) e
    | glitch => exact h.live_kept (glitchStep_rings s) e
    | pistolHoldEnd => exact h.live_kept (pistolHoldEndStep_rings s) e
    | recallPulseEnd => exact h.live_kept (recallPulseEndStep_rings s) e
    | sampleFrame p rx => exact h.live (h.linkReceive p rx) e
    | hello p rx => exact h.live (h.linkReceive p rx) e
    | alive p rx => exact h.live (h.linkReceive p rx) e
    | discardedStatusFrame p rx => exact h.live (h.linkReceive p rx) e
    | badFrame p rx => exact h.live (h.linkReceive p rx) e
    | silenceEndExpiry p => exact h.live_kept (silenceEndStep_rings p s) e
    | presenceActive p => exact h.live_kept (presenceActiveStep_rings p s) e
    | presenceInactive p => exact h.live_kept (presenceInactiveStep_rings p s) e
    | helloWaitEndExpiry p => exact h.live_kept (helloWaitEndStep_rings p s) e
    | breakEnd p => exact h.live_kept (breakEndStep_rings p s) e
    | outboundFrameSent p => exact h.live_kept (outboundFrameSentStep_rings p s) e
    | zeroTimeout l => exact h.live_kept (zeroTimeoutStep_rings l s) e
    | settleEndExpiry => exact h.live_kept (settleEndStep_rings s) e
    | windowCloseExpiry => exact h.live h.windowCloseStep e
    | recallShotEndExpiry => exact h.live_kept (recallShotEndStep_rings s) e
    | heldAgeEndExpiry l => exact h.live_kept (heldAgeEndStep_rings l s) e
    | attnPulseStart =>
      refine h.live_kept ?_ e
      unfold attnPulseStartStep
      split <;> rfl
    | attnPulseEnd => exact h.live_kept (f := attnPulseEndStep) rfl e
    | loadAddressAcknowledged => exact h.live_kept (loadAddressStep_rings s) e
    | loadAcknowledgeDeadline => exact h.live_kept (loadDeadlineStep_rings s) e
    | loadRead taken => exact h.live_kept (loadReadStep_rings taken s) e
    | saveWriteTaken => exact h.live_kept (saveTakenStep_rings s) e
    | saveWriteStored => exact h.live_kept (saveStoredStep_rings s) e
    | saveAcknowledgeDeadline => exact h.live_kept (saveDeadlineStep_rings s) e
    | _ => cases hr

end RingsInv

/-- Settles O54: of the commands only a commit, MARKS, STAND, the window close, the upsets of a TICK and a reset write a ring. A commit
writes a force held within its limits at the ring's write index, an upset changes no entry's fields, and the others write the frozen mark
or the empty ring. -/
theorem ringsStayWellFormed : Obligations.RingsStayWellFormed := by
  intro s t h e
  unfold step at e
  split at e
  · cases e; exact h
  · refine RingsInv.exec ?_ e
    exact h.kept rfl

end Sys2Proof.Machine
end

section
/-! PROOFS. Entries taken in CROSSING (R116, R119, R121 to R124, R139, R145 to R147). -/

namespace Sys2Proof.Machine

/-- The event queue after the walk of a crossing of lane `l`: CHECK_FAULT for the failed entry that it met, if it met one (R67, R119). -/
def walkEvents (l : LaneIx) (w : Walk) (s : State) : EventQueue :=
  match w.fault with
  | none => s.events
  | some i => arrive s.line.attnMode
      { kind := .checkFault, time := s.clock, lane := some l,
        attempt := (match (s.ring l).frozenBy with | some id => id | none => openId s), value := BitVec.ofNat 32 i } s.events

/-- The crossing that a walk confirms: its onset less the lane's latency, and its marks (R120, R121). -/
def walkCrossing (l : LaneIx) (w : Walk) (s : State) : Crossing :=
  { onset := w.onset - BitVec.ofNat 32 (s.lane l).latency, bounded := w.bounded, stale := w.stale, sat := w.sat }

/-- A crossing confirmed before the shot is held, with EARLY_MOVE (R121, R124). -/
theorem confirm_beforeShot {l : LaneIx} {s : State} {d : Detector} {s1 : FirstCrossing} {b : Baseline} {w : Walk}
    (hd : s.detector l = d) (h1 : d.first = some s1) (hb : d.baseline = some b)
    (hw : w = onsetWalk (s.ring l) b.l s1 d.runStale d.runSat) (ht : d.shotTime = none) : confirm l s =
      place .earlyMove (some l) (d.attempt.getD 0) (walkCrossing l w s).onset
        { s.setDetector l { d with state := .done, held := some (walkCrossing l w s), heldAgeEnd := some (tadd s.clock 30000) } with
          events := walkEvents l w s } := by
  subst hd
  simp only [confirm, h1, hb, ht, ← hw, walkEvents]
  cases w.fault <;> rfl

/-- A crossing confirmed after the shot is judged (R121, R123). -/
theorem confirm_afterShot {l : LaneIx} {s : State} {d : Detector} {s1 : FirstCrossing} {b : Baseline} {w : Walk} {t0 : Time}
    (hd : s.detector l = d) (h1 : d.first = some s1) (hb : d.baseline = some b)
    (hw : w = onsetWalk (s.ring l) b.l s1 d.runStale d.runSat) (ht : d.shotTime = some t0) : confirm l s =
      judgeCrossing l (walkCrossing l w s) t0 d.longHeld
        { s.setDetector l { d with state := .done } with events := walkEvents l w s } := by
  subst hd
  simp only [confirm, h1, hb, ht, ← hw, walkEvents]
  cases w.fault <;> rfl

theorem State.setDetector_again (s : State) (l : LaneIx) (d d' : Detector) :
    (s.setDetector l d).setDetector l d' = s.setDetector l d' := by simp [State.setDetector]

/-- An entry in CROSSING below the threshold abandons the run; one at or above it counts, and the P-th confirms (R116). -/
theorem offerEntry_crossing {s : State} {l : LaneIx} {d : Detector} {b : Baseline} (e : Entry) (index : Option Nat)
    (hd : s.detector l = d) (hs : d.state = .crossing) (hb : d.baseline = some b) : offerEntry l e index s =
    if b.theta ≤ e.force then
      countCrossing l { d with persistence := d.persistence + 1, runStale := d.runStale || e.stale,
                               runSat := d.runSat || e.sat || e.ovl } s
    else s.setDetector l { d with state := .watching, persistence := 0, first := none, runStale := false, runSat := false } := by
  subst hd
  simp only [offerEntry, hs, persistenceEntry, hb]

/-- A difference below the least 16-bit number, or one that has wrapped for a long-held crossing, counts as the least (R122, R124). -/
theorem reaction_least {onset t0 : Time} {longHeld : Bool} (h : tdiff onset t0 < -32768 ∨ (longHeld = true ∧ 0 ≤ tdiff onset t0)) :
    reaction onset t0 longHeld = (-32768, true, true) := by
  unfold reaction
  simp only
  split
  · rfl
  · next held =>
    have below := h.resolve_right held
    rw [if_neg (by omega), if_pos below]

/-- A difference above the greatest 16-bit number counts as the greatest (R122). -/
theorem reaction_greatest {onset t0 : Time} {longHeld : Bool} (hl : longHeld = false) (h : 32767 < tdiff onset t0) :
    reaction onset t0 longHeld = (32767, true, false) := by
  simp [reaction, hl, h]

/-- Any other difference is the reaction time (R122). -/
theorem reaction_exact {onset t0 : Time} {longHeld : Bool} (hl : longHeld = false ∨ tdiff onset t0 < 0)
    (lower : -32768 ≤ tdiff onset t0) (upper : tdiff onset t0 ≤ 32767) :
    reaction onset t0 longHeld = (tdiff onset t0, false, decide (tdiff onset t0 < 0)) := by
  have fresh : ¬(longHeld = true ∧ 0 ≤ tdiff onset t0) := by
    rintro ⟨held, after⟩
    rcases hl with hl | hl
    · rw [hl] at held; cases held
    · omega
  unfold reaction
  simp only
  rw [if_neg fresh, if_neg (by omega), if_neg (by omega)]

/-- The judge report of a crossing whose reaction time is known (R123). -/
theorem judgeCrossing_eq {c : Crossing} {t0 : Time} {longHeld : Bool} {rt : Int} {rtSat early : Bool}
    (h : reaction c.onset t0 longHeld = (rt, rtSat, early)) (l : LaneIx) (s : State) : judgeCrossing l c t0 longHeld s =
      reportJudge l c.onset rt { early := early, rtSat := rtSat, bounded := c.bounded, stale := c.stale, sat := c.sat } s := by
  rw [judgeCrossing, h]

theorem lampOn_ports {s : State} {l : LaneIx} {p : PortIx} (hp : (s.lane l).port = some p) (hs : (s.port p).link = .streaming)
    (he : (s.lane l).lampEnable = true) : (lampOn l s).ports = s.ports.set p { offerFrame .lampOn (s.port p) with lamp := true } := by
  simp [lampOn, hp, hs, he]

/-- The judgement of a PENDING lane of the open record, read back from the record of its id (R139, R140, R145 to R147). -/
theorem reportJudge_outcome {s : State} {r : Record} {l : LaneIx} {x : LaneResult} (hi : HistoryInv s) (ho : openRecord s = some r)
    (hx : r.result l = some x) (hp : x.verdict = .pending) (onset : Time) (rt : Int) (f : LaneFlags) :
    ∃ r', recordOf (reportJudge l onset rt f s) r.id = some r'
      ∧ (reportJudge l onset rt f s).detectors = s.detectors
      ∧ r'.result l = some { x with verdict := if rt < s.line.reactionLimit then .falseStart else .fair, onset := some onset,
                                    rt := some rt, flags := x.flags.union f }
      ∧ (s.line.reactionLimit ≤ rt → r'.falseList = r.falseList ∧ (reportJudge l onset rt f s).events = s.events
          ∧ (reportJudge l onset rt f s).driver = s.driver ∧ (reportJudge l onset rt f s).ports = s.ports)
      ∧ (rt < s.line.reactionLimit → ∃ q : EventQueue, r'.falseList = insertFalse r'.results l onset r.falseList
          ∧ q = arrive s.line.attnMode
              { kind := .falseStart, time := s.clock, lane := some l, attempt := r.id,
                value := falseStartValue (some rt) (positionIn l r'.falseList) } s.events
          ∧ (r.state = .running → s.line.autoRecall = true → r.recallPulse = none →
              (reportJudge l onset rt f s).driver = .pulsing (tadd s.clock s.line.pulseLength) ∧ r'.recallPulse = some s.clock
              ∧ (reportJudge l onset rt f s).events = arrive s.line.attnMode
                  { kind := .recallSent, time := s.clock, lane := none, attempt := r.id, value := 1#32 } q)
          ∧ (r.state ≠ .running ∨ s.line.autoRecall = false ∨ r.recallPulse ≠ none →
              (reportJudge l onset rt f s).driver = s.driver ∧ r'.recallPulse = r.recallPulse
              ∧ (reportJudge l onset rt f s).events = q)
          ∧ ∀ p, r.state = .running → (s.lane l).port = some p → (s.port p).link = .streaming → (s.lane l).lampEnable = true →
              (reportJudge l onset rt f s).ports = s.ports.set p { offerFrame .lampOn (s.port p) with lamp := true }) := by
  obtain ⟨newest, frame, fair, started⟩ := reportJudge_spec (hi.newestOpen ho) hx hp onset rt f
  refine ⟨judgedRecord l onset rt f s r, recordOf_last newest.history newest.ids, frame.detectors, Record.onLane_result (fun _ => rfl) hx,
    fun h => ⟨if_neg (by omega), fair h⟩, fun h => ?_⟩
  obtain ⟨q, hq, lit, _, recalled, noRecall⟩ := started h
  refine ⟨q, if_pos h, hq, fun hr ha hn => ?_, fun hn => ?_, fun p hr hp hs he => (lit hr).trans (lampOn_ports hp hs he)⟩
  · obtain ⟨driver, sent⟩ := recalled ⟨hr, ha, hn⟩
    exact ⟨driver, if_pos ⟨h, hr, ha, hn⟩, sent⟩
  · have unmet : ¬(r.state = .running ∧ s.line.autoRecall = true ∧ r.recallPulse = none) := by
      rintro ⟨hr, ha, hp⟩
      simp [hr, ha, hp] at hn
    obtain ⟨driver, queue⟩ := noRecall unmet
    exact ⟨driver, if_neg fun met => unmet met.2, queue⟩

/-- Settles O51. -/
theorem crossingsConfirmed : Obligations.CrossingsConfirmed := by
  intro s l e index d d' b hd hs hb hd'
  have taken := offerEntry_crossing e index hd.symm hs hb
  rw [← hd'] at taken
  refine ⟨fun below => ?_, fun above more => ?_, fun s1 w onset q above last h1 hw hq honset => ?_⟩
  · rw [taken, if_neg (by omega)]; rfl
  · rw [taken, if_pos above, countCrossing, if_neg (by rw [hd']; exact more)]; rfl
  · have confirmed : offerEntry l e index s = confirm l (s.setDetector l d') := by
      rw [taken, if_pos above, countCrossing, if_pos (by rw [hd']; exact last)]
    have counted : (s.setDetector l d').detector l = d' := (State.setDetector_detector s l l d').trans (if_pos rfl)
    have first : d'.first = some s1 := by rw [hd']; exact h1
    have baseline : d'.baseline = some b := by rw [hd']; exact hb
    have shot : d'.shotTime = d.shotTime := by rw [hd']
    have events : walkEvents l w (s.setDetector l d') = q := by rw [hq]; rfl
    subst honset
    refine ⟨fun hn => ?_, fun t0 rec x ht hi ho hx hp => ?_⟩
    · rw [confirmed, confirm_beforeShot counted first baseline hw (shot.trans hn), State.setDetector_again, events, hd']
      rfl
    · rw [confirm_afterShot counted first baseline hw (shot.trans ht), State.setDetector_again, events] at confirmed
      obtain ⟨rt, rtSat, early, hreact⟩ : ∃ rt rtSat early,
        reaction (w.onset - BitVec.ofNat 32 (s.lane l).latency) t0 d'.longHeld = (rt, rtSat, early) := ⟨_, _, _, rfl⟩
      rw [judgeCrossing_eq (c := walkCrossing l w (s.setDetector l d')) hreact] at confirmed
      rw [show d'.longHeld = d.longHeld by rw [hd']] at hreact
      obtain ⟨rec', held, detectors, result, fair, started⟩ := reportJudge_outcome
        (s := { s.setDetector l { d' with state := .done } with events := q }) (hi.of_seq rfl) ho hx hp
        (w.onset - BitVec.ofNat 32 (s.lane l).latency) rt
        { early := early, rtSat := rtSat, bounded := w.bounded, stale := w.stale, sat := w.sat }
      refine ⟨_, rec', rt, rtSat, early, confirmed, held, detectors, result, fun low => ?_, fun fresh high => ?_,
        fun fresh low high => ?_, fair, started⟩
      · simpa [hreact] using reaction_least low
      · simpa [hreact] using reaction_greatest fresh high
      · simpa [hreact] using reaction_exact fresh low high

end Sys2Proof.Machine
end

section
/-! PROOFS. What an event makes of the records that the history holds, MARKS and a reset apart (R80 to R86, R134 to R148, R156). -/

namespace Sys2Proof.Machine

/-! ### The changes of a record -/

/-- One change that a command other than MARKS makes to a record: a report on a lane, a verdict for a lane still PENDING, a step of the
attempt, a recall, a recall shot or a referee decision. -/
inductive Record.Change (r : Record) : Record → Prop
  | flags (l : LaneIx) (f : LaneFlags) : Change r (r.onLane l fun x => { x with flags := x.flags.union f })
  | baseline (l : LaneIx) (b : Baseline) (f : LaneFlags) :
      Change r (r.onLane l fun x => { x with b := b.b, n := b.n, theta := b.theta, flags := x.flags.union f })
  | unsure (l : LaneIx) (f : LaneFlags) (pending : isPending r l = true) :
      Change r (r.onLane l fun x => { x with verdict := .unsure, flags := x.flags.union f })
  | fair (l : LaneIx) (onset : Time) (rt : Int) (f : LaneFlags) (pending : isPending r l = true) :
      Change r (r.onLane l fun x => { x with verdict := .fair, onset := some onset, rt := some rt, flags := x.flags.union f })
  | falseStart (l : LaneIx) (onset : Time) (rt : Option Int) (f : LaneFlags) (pending : isPending r l = true) :
      Change r (r.giveFalse l onset rt f)
  | noStart (l : LaneIx) (pending : isPending r l = true) : Change r (r.onLane l fun x => { x with verdict := .noStart })
  | void : Change r r.voidPending
  | set (marks : r.state = .marks) : Change r { r with state := .set }
  | started (te : Time) (set : r.state = .set) : Change r { r with t0 := some te, state := .running }
  | decided (now : Time) : Change r { r with windowClose := some now, state := .decided }
  | aborted : Change r { r with state := .aborted }
  | recalled (now : Time) : Change r { r with recallPulse := some (r.recallPulse.getD now) }
  | recallShot (te : Time) : Change r (r.takeRecallShot te)
  | ruled (l : LaneIx) (d : Decision) : Change r (r.ruleOn l d)

theorem Record.onLane_lanes (r : Record) (l : LaneIx) {g : LaneResult → LaneResult} (hg : ∀ x, (g x).lane = x.lane) :
    (r.onLane l g).lanes = r.lanes := by
  rw [Record.lanes, Record.onLane, List.map_map]
  refine List.map_congr_left fun x _ => ?_
  rw [Function.comp_apply]
  split
  · exact hg x
  · rfl

theorem Record.voidPending_lanes (r : Record) : r.voidPending.lanes = r.lanes := by
  rw [Record.lanes, Record.voidPending, List.map_map]
  refine List.map_congr_left fun x _ => ?_
  rw [Function.comp_apply]
  split <;> rfl

namespace Record.Change

/-- A change keeps a record's id and its lane set (R82). -/
theorem header {r r' : Record} (h : r.Change r') : r'.id = r.id ∧ r'.lanes = r.lanes := by
  have lane := fun l g => Record.onLane_lanes (g := g) r l
  cases h with
  | flags | baseline | unsure | fair | falseStart | noStart | ruled => exact ⟨rfl, lane _ _ fun _ => rfl⟩
  | void => exact ⟨rfl, r.voidPending_lanes⟩
  | set | started | decided | aborted | recalled | recallShot => exact ⟨rfl, rfl⟩

/-- No change opens a record that is closed (R80). -/
theorem closed {r r' : Record} (h : r.Change r') (hr : r.isOpen = false) : r'.isOpen = false := by
  cases h with
  | set hs => simp [Record.isOpen, hs] at hr
  | started _ hs => simp [Record.isOpen, hs] at hr
  | decided | aborted => rfl
  | _ => exact hr

end Record.Change

/-- What changes, one after another, make of a record. -/
abbrev Record.Changes : Record → Record → Prop := Relation.ReflTransGen Record.Change

theorem Record.Changes.header {r r' : Record} (h : r.Changes r') : r'.id = r.id ∧ r'.lanes = r.lanes := by
  induction h with
  | refl => exact ⟨rfl, rfl⟩
  | tail _ hc ih => exact ⟨hc.header.1.trans ih.1, hc.header.2.trans ih.2⟩

theorem Record.Changes.closed {r r' : Record} (h : r.Changes r') (hr : r.isOpen = false) : r'.isOpen = false := by
  induction h with
  | refl => exact hr
  | tail _ hc ih => exact hc.closed ih

/-! ### The history kept -/

/-- From a history in order, an event that keeps the records: none comes or goes, each is changed in place, and the counter stays. -/
def HistoryKept (s t : State) : Prop :=
  HistoryInv s → t.seq.nextId = s.seq.nextId
    ∧ ∃ f : Record → Record, (∀ r ∈ s.seq.history, r.Changes (f r)) ∧ t.seq.history = s.seq.history.map f

/-- A history kept stays in order: ids, lane sets and the number of records are the same, and no closed record is open (R80 to R85). -/
theorem HistoryInv.kept {s t : State} (h : HistoryInv s) (k : HistoryKept s t) : HistoryInv t := by
  obtain ⟨nextId, f, changes, history⟩ := k h
  have ids : t.seq.history.map (·.id) = s.seq.history.map (·.id) := by
    rw [history, List.map_map]; exact List.map_congr_left fun r hr => (changes r hr).header.1
  have held : ∀ x ∈ t.seq.history, ∃ r ∈ s.seq.history, r.Changes x := by
    rw [history]; intro x hx; obtain ⟨r, hr, rfl⟩ := List.mem_map.mp hx; exact ⟨r, hr, changes r hr⟩
  constructor
  case size => rw [history, List.length_map]; exact h.size
  case ids => intro x hx; obtain ⟨r, hr, c⟩ := held x hx; rw [c.header.1]; exact h.ids r hr
  case next => rw [nextId]; exact h.next
  case chain => rw [nextId, ids]; exact h.chain
  case lanes => intro x hx; obtain ⟨r, hr, c⟩ := held x hx; rw [c.header.2]; exact h.lanes r hr
  case closed =>
    rw [history, ← List.map_dropLast]
    intro x hx
    obtain ⟨r, hr, rfl⟩ := List.mem_map.mp hx
    exact (changes r (List.dropLast_subset _ hr)).closed (h.closed r hr)

namespace HistoryKept

theorem of_seq {s t : State} (e : t.seq = s.seq) : HistoryKept s t := fun _ =>
  ⟨by rw [e], id, fun _ _ => .refl, by rw [e, List.map_id]⟩

theorem refl (s : State) : HistoryKept s s := .of_seq rfl

theorem trans {a b c : State} (h : HistoryKept a b) (k : HistoryKept b c) : HistoryKept a c := by
  intro hi
  obtain ⟨next, f, hf, eb⟩ := h hi
  obtain ⟨next', g, hg, ec⟩ := k (hi.kept h)
  refine ⟨next'.trans next, g ∘ f, fun r hr => (hf r hr).trans (hg _ ?_), by rw [ec, eb, List.map_map]⟩
  rw [eb]; exact List.mem_map_of_mem hr

/-- What keeps the records of a state keeps those of a state with the same sequencer before it. -/
theorem after {a b c : State} (k : HistoryKept b c) (e : b.seq = a.seq) : HistoryKept a c := (of_seq e).trans k

theorem forLanes {f : LaneIx → State → State} (h : ∀ l t, HistoryKept t (f l t)) (ls : List LaneIx) (s : State) :
    HistoryKept s (forLanes ls f s) := forLanes_induct (P := HistoryKept s) ls (.refl s) fun l _ t ht => ht.trans (h l t)

theorem forPorts {f : PortIx → State → State} (h : ∀ p t, HistoryKept t (f p t)) (ps : List PortIx) (s : State) :
    HistoryKept s (forPorts ps f s) := forPorts_induct (P := HistoryKept s) ps (.refl s) fun p _ t ht => ht.trans (h p t)

/-- A step that writes the times and the mark of the sequencer keeps the records. -/
theorem times {s t : State} (history : t.seq.history = s.seq.history) (nextId : t.seq.nextId = s.seq.nextId) : HistoryKept s t :=
  fun _ => ⟨nextId, id, fun _ _ => .refl, by rw [history, List.map_id]⟩

theorem place (k : EventKind) (l : Option LaneIx) (a : Nat) (v : BitVec 32) (s : State) : HistoryKept s (place k l a v s) :=
  .of_seq rfl

theorem setRing (s : State) (l : LaneIx) (r : Ring) : HistoryKept s (s.setRing l r) := .of_seq rfl

theorem setAssembler (s : State) (l : LaneIx) (a : Assembler) : HistoryKept s (s.setAssembler l a) := .of_seq rfl

/-- A change to the records of an id. -/
theorem change {s : State} {id : Nat} {f : Record → Record} (h : ∀ x : Record, x.Change (f x)) : HistoryKept s (changeRecord id f s) := by
  intro _
  refine ⟨changeRecord_nextId _ _ _, _, fun x _ => ?_, changeRecord_history _ _ _⟩
  split
  · exact .single (h x)
  · exact .refl

/-- A change to the record that holds an id, which a history in order has only once (R83). -/
theorem changeHeld {s : State} {r : Record} {f : Record → Record} (hr : r ∈ s.seq.history) (h : r.Change (f r)) :
    HistoryKept s (changeRecord r.id f s) := by
  intro hi
  refine ⟨changeRecord_nextId _ _ _, _, fun x hx => ?_, changeRecord_history _ _ _⟩
  split
  · next hid => obtain rfl := hi.eq_of_id hx hr hid; exact .single h
  · exact .refl

theorem changeOpen {s : State} {r : Record} {f : Record → Record} (ho : openRecord s = some r) (h : r.Change (f r)) :
    HistoryKept s (changeRecord r.id f s) := changeHeld (openRecord_mem ho) h

/-! ### The verdict unit (R104, R134 to R147) -/

theorem reportFlags (l : LaneIx) (f : LaneFlags) (s : State) : HistoryKept s (reportFlags l f s) := by
  unfold Machine.reportFlags
  split
  · exact .refl s
  · exact .change fun x => .flags l f

theorem reportBaseline (l : LaneIx) (b : Baseline) (shortBase sat : Bool) (s : State) :
    HistoryKept s (reportBaseline l b shortBase sat s) := by
  unfold Machine.reportBaseline
  split
  · exact .refl s
  · exact .change fun x => .baseline l b _

theorem reportUnsure (l : LaneIx) (f : LaneFlags) (s : State) : HistoryKept s (reportUnsure l f s) := by
  unfold Machine.reportUnsure
  split
  · exact .refl s
  · next ho =>
    split
    · next hp => exact .changeOpen ho (.unsure l f hp)
    · exact reportFlags l f s

theorem reportWatchEnded (l : LaneIx) (s : State) : HistoryKept s (reportWatchEnded l s) := by
  unfold Machine.reportWatchEnded
  split
  · exact .refl s
  · next ho =>
    split
    · next hp => exact .changeOpen ho (.noStart l hp)
    · exact .refl s

theorem autoRecall (s : State) : HistoryKept s (autoRecall s) := by
  unfold Machine.autoRecall
  split
  · exact .refl s
  · next r ho =>
    split
    · next hc =>
      have recalled : r.Change { r with recallPulse := some s.clock } := by
        simpa only [hc.2, Option.getD_none] using Record.Change.recalled (r := r) s.clock
      exact (changeOpen (f := fun r => { r with recallPulse := some s.clock }) ho recalled).trans (.of_seq rfl)
    · exact .refl s

theorem falseActs (l : LaneIx) (rt : Option Int) (s : State) : HistoryKept s (falseActs l rt s) := by
  unfold Machine.falseActs
  split
  · exact .refl s
  · simp only
    split
    · exact (autoRecall _).after (lampOn_seq l _).1
    · exact .of_seq rfl

theorem reportJudge (l : LaneIx) (onset : Time) (rt : Int) (f : LaneFlags) (s : State) :
    HistoryKept s (reportJudge l onset rt f s) := by
  unfold Machine.reportJudge
  split
  · exact .refl s
  · next ho =>
    split
    · next hp =>
      split
      · exact (changeOpen ho (.falseStart l onset (some rt) f hp)).trans (falseActs _ _ _)
      · exact .changeOpen ho (.fair l onset rt f hp)
    · exact reportFlags l f s

theorem reportHeld (l : LaneIx) (c : Crossing) (s : State) : HistoryKept s (reportHeld l c s) := by
  unfold Machine.reportHeld
  split
  · exact .refl s
  · next ho =>
    simp only
    split
    · next hp => exact (changeOpen ho (.falseStart l c.onset none _ hp)).trans (falseActs _ _ _)
    · exact reportFlags _ _ s

/-! ### The onset detectors (R105 to R129) -/

theorem finalize (l : LaneIx) (s : State) : HistoryKept s (finalize l s) := (reportBaseline l _ _ _ _).after rfl

theorem captureEntry (l : LaneIx) (e : Entry) (s : State) : HistoryKept s (captureEntry l e s) := by
  unfold Machine.captureEntry
  simp only
  split
  · exact (finalize l _).after rfl
  · exact .of_seq rfl

theorem unsteadyTest (l : LaneIx) (e : Entry) (s : State) : HistoryKept s (unsteadyTest l e s) := by
  have flags := fun d f => (reportFlags l f (s.setDetector l d)).after (a := s) rfl
  unfold Machine.unsteadyTest
  simp only
  split
  · exact .refl s
  · split
    · exact .refl s
    · split
      · split
        · exact (flags _ _).trans (place _ _ _ _ _)
        · exact .of_seq rfl
      · exact .of_seq rfl

/-- A crossing confirmed changes the record by the judgement of the lane, when the shot is known (R121, R123). -/
theorem confirm (l : LaneIx) (s : State) : HistoryKept s (confirm l s) := by
  have fault : ∀ w : Walk, (match w.fault with | some i => checkFault l i s | none => s).seq = s.seq := fun w => by
    cases w.fault <;> rfl
  unfold Machine.confirm
  simp only
  split
  · split
    · exact (reportJudge _ _ _ _ _).after (fault _)
    · exact .of_seq (fault _)
  · exact .refl s

theorem countCrossing (l : LaneIx) (d : Detector) (s : State) : HistoryKept s (countCrossing l d s) := by
  unfold Machine.countCrossing
  simp only
  split
  · exact (confirm l _).after rfl
  · exact .of_seq rfl

theorem offerEntry (l : LaneIx) (e : Entry) (index : Option Nat) (s : State) : HistoryKept s (offerEntry l e index s) := by
  unfold Machine.offerEntry
  split
  · split
    · exact .refl s
    · exact captureEntry l e s
  · refine (unsteadyTest l e s).trans ?_
    unfold crossingTest
    simp only
    split
    · exact .refl _
    · split
      · exact countCrossing l _ _
      · exact .refl _
  · unfold persistenceEntry
    simp only
    split
    · exact .refl s
    · split
      · exact countCrossing l _ s
      · exact .of_seq rfl
  all_goals exact .refl s

/-- What a detector does when the shot is fired (R111, R125). -/
theorem shotFired (t0 : Time) (l : LaneIx) (s : State) : HistoryKept s (shotFired t0 l s) := by
  have unsure := fun d f => (reportUnsure l f (s.setDetector l d)).after (a := s) rfl
  unfold Machine.shotFired
  simp only
  split
  · split
    · exact unsure _ _
    · exact .of_seq rfl
  · exact unsure _ _
  · split
    · exact unsure _ _
    · exact (finalize l _).after rfl
  · exact .of_seq rfl
  · exact .of_seq rfl
  · split
    · exact .of_seq rfl
    · exact (reportJudge _ _ _ _ _).after rfl

theorem standDetector (l : LaneIx) (s : State) : HistoryKept s (standDetector l s) := by
  unfold Machine.standDetector
  split
  · exact reportHeld l _ s
  · exact .refl s

theorem endWatch (l : LaneIx) (s : State) : HistoryKept s (endWatch l s) := by
  unfold Machine.endWatch
  split
  · exact .refl s
  · exact reportWatchEnded l s

theorem streamEnded (l : LaneIx) (s : State) : HistoryKept s (streamEnded l s) := by
  have flags := fun d f => (reportFlags l f (s.setDetector l d)).after (a := s) rfl
  have unsure := fun d f => (reportUnsure l f (s.setDetector l d)).after (a := s) rfl
  unfold Machine.streamEnded
  simp only
  split
  · split
    · exact flags _ _
    · exact .refl s
  · exact flags _ _
  · exact flags _ _
  · split
    · exact unsure _ _
    · exact flags _ _
  · split
    · exact unsure _ _
    · exact flags _ _
  · split
    · exact flags _ _
    · exact .refl s

/-! ### The lane link ports (R26 to R40) -/

theorem failZero (l : LaneIx) (reason : BitVec 32) (s : State) : HistoryKept s (failZero l reason s) := by
  unfold Machine.failZero; split <;> exact .of_seq rfl

theorem linkReset (p : PortIx) (lane : Option LaneIx) (s : State) : HistoryKept s (linkReset p lane s) :=
  .of_seq (by rw [linkReset_writes])

theorem portStreamEnded (p : PortIx) (lane : Option LaneIx) (s : State) : HistoryKept s (portStreamEnded p lane s) := by
  unfold Machine.portStreamEnded
  split
  · split
    · exact streamEnded _ s
    · exact .refl s
  · exact .refl s

theorem tableReset (p : PortIx) (before lane : Option LaneIx) (s : State) : HistoryKept s (tableReset p before lane s) := by
  unfold Machine.tableReset
  split
  · exact (portStreamEnded p before s).trans (linkReset p lane _)
  · exact .refl s

theorem enterLost (p : PortIx) (s : State) : HistoryKept s (enterLost p s) :=
  ((place _ _ _ _ s).trans (portStreamEnded p _ _)).trans (linkReset p _ _)

theorem enterAbsent (p : PortIx) (s : State) : HistoryKept s (enterAbsent p s) := by
  have notice : HistoryKept s (if (s.port p).link = .streaming
      then Machine.portStreamEnded p (mappedLane s p) (linkEvent .linkLost p s) else s) := by
    split
    · exact (portStreamEnded p _ _).after rfl
    · exact .refl s
  unfold Machine.enterAbsent
  simp only
  generalize (if (s.port p).link = .streaming then _ else s) = t at notice ⊢
  cases mappedLane s p with
  | none => exact notice.trans (.of_seq rfl)
  | some l =>
    simp only
    split
    · exact notice.trans ((failZero l _ _).after rfl)
    · exact notice.trans (.of_seq rfl)

theorem completeHello (p : PortIx) (s : State) : HistoryKept s (completeHello p s) := .of_seq (by rw [completeHello_writes])

theorem silenceEndStep (p : PortIx) (s : State) : HistoryKept s (silenceEndStep p s) := by
  unfold Machine.silenceEndStep
  split
  · exact enterLost p s
  · exact .refl s

theorem helloWaitEndStep (p : PortIx) (s : State) : HistoryKept s (helloWaitEndStep p s) := by
  unfold Machine.helloWaitEndStep
  split
  · exact linkReset p _ s
  · exact .refl s

theorem presenceActiveStep (p : PortIx) (s : State) : HistoryKept s (presenceActiveStep p s) := by
  unfold Machine.presenceActiveStep
  simp only
  split
  · split
    · exact (linkReset p _ _).after rfl
    · exact .of_seq rfl
  · exact .refl s

theorem presenceInactiveStep (p : PortIx) (s : State) : HistoryKept s (presenceInactiveStep p s) := by
  unfold Machine.presenceInactiveStep
  simp only
  split
  · split
    · exact (enterAbsent p _).after rfl
    · exact .of_seq rfl
  · exact .refl s

theorem outboundFrameSentStep (p : PortIx) (s : State) : HistoryKept s (outboundFrameSentStep p s) := by
  unfold Machine.outboundFrameSentStep; split <;> exact .of_seq rfl

theorem breakEndStep (p : PortIx) (s : State) : HistoryKept s (breakEndStep p s) := by
  unfold Machine.breakEndStep; split <;> exact .of_seq rfl

theorem lampOff (p : PortIx) (s : State) : HistoryKept s (lampOff p s) := by
  unfold Machine.lampOff; split <;> exact .of_seq rfl

/-! ### Samples and link frames (R21 to R25, R30, R33, R57 to R60) -/

theorem zeroCommit (l : LaneIx) (s : State) : HistoryKept s (zeroCommit l s) := .of_seq (by rw [zeroCommit_writes])

theorem zeroTimeoutStep (l : LaneIx) (s : State) : HistoryKept s (zeroTimeoutStep l s) := .of_seq (by rw [zeroTimeoutStep_writes])

theorem commit (l : LaneIx) (s : State) : HistoryKept s (commit l s) :=
  (((setRing s l _).trans (offerEntry l _ _ _)).trans (zeroCommit l _)).trans (setAssembler _ l _)

theorem takeSample (l : LaneIx) (x : Sample) (s : State) : HistoryKept s (takeSample l x s) := by
  unfold Machine.takeSample
  simp only
  split
  · exact (commit l _).after rfl
  · exact .of_seq rfl

theorem sampleTaken (p : PortIx) (c : Chan) (seq : BitVec 4) (raw : BitVec 16) (overload : Bool) (s : State) :
    HistoryKept s (sampleTaken p c seq raw overload s) := by
  unfold Machine.sampleTaken
  simp only
  split
  · split
    · exact (takeSample _ _ _).after rfl
    · exact .of_seq rfl
  · exact .refl s

theorem badFrame (parity : Bool) (p : PortIx) (s : State) : HistoryKept s (badFrame parity p s) := by
  rw [badFrame_eq]
  split
  · exact (enterLost p _).after rfl
  · exact .of_seq rfl

theorem helloTaken (p : PortIx) (channels : Nat) (s : State) : HistoryKept s (helloTaken p channels s) := by
  unfold Machine.helloTaken
  simp only
  split
  · split <;> exact .of_seq rfl
  · split
    · split
      · exact enterLost p s
      · exact .refl s
    · exact .refl s
  all_goals exact .refl s

theorem aliveTaken (p : PortIx) (s : State) : HistoryKept s (aliveTaken p s) := by
  unfold Machine.aliveTaken; simp only; split <;> exact .of_seq rfl

/-- A complete frame, however it is judged and used (R22, R23). -/
theorem frameComplete (p : PortIx) (error early : Bool) (b0 b1 b2 b3 : Byte) (s : State) :
    HistoryKept s (frameComplete p error early b0 b1 b2 b3 s) := by
  unfold Machine.frameComplete
  split
  · exact .refl s
  · split
    · exact badFrame true p s
    · split
      · refine after (b := s.setPort p ((s.port p).validFrame s.clock)) ?_ rfl
        unfold validFrame
        cases linkUse (linkFields b0 b1 b2 b3) with
        | sample c seq raw overload => exact sampleTaken p c seq raw overload _
        | hello channels => exact helloTaken p channels _
        | alive => exact aliveTaken p _
        | discarded => exact .refl _
      · exact badFrame false p s

theorem linkByte (p : PortIx) (early : Bool) (b : RxByte) (s : State) : HistoryKept s (linkByte p early b s) := by
  have emptied : HistoryKept s (setInbound p inboundEmpty s) := .of_seq rfl
  unfold Machine.linkByte
  simp only
  split
  · exact .refl s
  · split
    · split
      · exact .of_seq rfl
      · refine emptied.trans (.trans ?_ (.of_seq rfl))
        unfold frameCut
        split
        · exact .refl _
        · exact badFrame _ p _
    · split
      · exact .refl s
      · exact emptied.trans (frameComplete p _ _ _ _ _ _ _)
      · exact .of_seq rfl

theorem linkReceive (p : PortIx) (rx : LinkRx) (s : State) : HistoryKept s (linkReceive p rx s) :=
  List.foldlRecOn (motive := HistoryKept s) rx.bytes _ (.refl s) fun _ ht b _ => ht.trans (linkByte p rx.early b _)

/-! ### The pistol and the attempt (R5 to R8, R90 to R98) -/

theorem startAttempt (te : Time) {r : Record} {s : State} (ho : openRecord s = some r) (hs : r.state = .set) :
    HistoryKept s (startAttempt te r s) := by
  unfold Machine.startAttempt
  refine .trans ?_ (.forLanes (shotFired te) r.lanes _)
  exact (changeOpen (f := fun r => { r with t0 := some te, state := .running }) ho (.started te hs)).trans (.times rfl rfl)

theorem recallShot {te : Time} {r : Record} (s : State) : HistoryKept s (recallShot te r s) := by
  have taken : ∀ x : Record, x.Change { x with recallShot := match x.recallShot with | none => some te | some t => some t } := by
    intro x
    convert Record.Change.recallShot (r := x) te using 1
    unfold Record.takeRecallShot
    cases x.recallShot <;> rfl
  exact (change taken).trans (place _ _ _ _ _)

/-- Whatever an accepted shot means, it keeps the records (R93 to R95). -/
theorem shotMeaning (te : Time) (s : State) : HistoryKept s (shotMeaning te s) := by
  unfold Machine.shotMeaning
  split
  · next r ho =>
    split
    · next hs =>
      split
      · exact startAttempt te ho hs
      · exact .of_seq rfl
    · exact recallShot s
    · exact .of_seq rfl
  · split
    · exact recallShot s
    · exact .of_seq rfl

theorem pistolEdgeStep (s : State) : HistoryKept s (pistolEdgeStep s) := by
  unfold Machine.pistolEdgeStep; split <;> exact .of_seq rfl

theorem shotAcceptedStep (s : State) : HistoryKept s (shotAcceptedStep s) := by
  unfold Machine.shotAcceptedStep
  split
  · split
    · exact ((shotMeaning _ s.pistolHeld).after (a := s) rfl).trans (.times rfl rfl)
    · exact .refl s
  · exact .refl s

theorem glitchStep (s : State) : HistoryKept s (glitchStep s) := by
  unfold Machine.glitchStep
  split
  · split
    · exact .times rfl rfl
    · exact .refl s
  · exact .refl s

theorem pistolHoldEndStep (s : State) : HistoryKept s (pistolHoldEndStep s) := by
  unfold Machine.pistolHoldEndStep; split <;> exact .of_seq rfl

theorem settleEndStep (s : State) : HistoryKept s (settleEndStep s) := by
  unfold Machine.settleEndStep; split <;> exact .times rfl rfl

theorem recallShotEndStep (s : State) : HistoryKept s (recallShotEndStep s) := by
  unfold Machine.recallShotEndStep; split <;> exact .times rfl rfl

theorem heldAgeEndStep (l : LaneIx) (s : State) : HistoryKept s (heldAgeEndStep l s) := .of_seq (heldAgeEndStep_spec l s).2

/-- STAND, in the steps of R96. -/
theorem standClose (r : Record) (s : State) : HistoryKept s (standClose r s) := by
  have reported := forLanes standDetector r.lanes s
  have voided := reported.trans (change (id := r.id) fun _ => .void)
  have told : ∀ t, HistoryKept t { t.mapDetectors r.lanes Detector.close with
      seq := { t.seq with settleEnd := none, setTime := none } } := fun _ => .times rfl rfl
  exact ((voided.trans (told _)).trans (change (id := r.id) fun _ => .aborted)).trans (.times rfl rfl)

/-- The window close, in the steps of R97. -/
theorem windowClose (r : Record) (s : State) : HistoryKept s (windowClose r s) := by
  have reported := forLanes endWatch r.lanes s
  have told : ∀ t, HistoryKept t (t.mapDetectors r.lanes Detector.close) := fun _ => .of_seq rfl
  exact ((reported.trans (told _)).trans (change (id := r.id) fun _ => .decided s.clock)).trans (.times rfl rfl)

theorem windowCloseStep (s : State) : HistoryKept s (windowCloseStep s) := by
  unfold Machine.windowCloseStep
  split
  · split
    · split
      · exact windowClose _ s
      · exact .refl s
    · exact .refl s
  · exact .refl s

theorem setAccepted {r : Record} {s : State} (ho : openRecord s = some r) (hs : r.state = .marks) : HistoryKept s (setAccepted r s) := by
  have started := changeOpen (f := fun r => { r with state := .set }) ho (.set hs)
  unfold Machine.setAccepted
  simp only
  split <;> exact started.trans (.times rfl rfl)

theorem marksLink (l : LaneIx) (s : State) : HistoryKept s (marksLink l s) := by
  unfold Machine.marksLink
  split
  · exact .refl s
  · exact streamEnded l s

/-! ### The store port (R191, R192, R195) -/

theorem endLoad (outcome : StoreState) (copy : Option LoadCopy) (marker : Option Nat) (s : State) :
    HistoryKept s (endLoad outcome copy marker s) := by
  refine after (forPorts completeHello allPorts _) ?_
  cases copy <;> rfl

theorem loadDeadlineStep (s : State) : HistoryKept s (loadDeadlineStep s) := by
  unfold Machine.loadDeadlineStep
  split
  · exact endLoad _ _ _ s
  · exact .refl s

theorem loadAddressStep (s : State) : HistoryKept s (loadAddressStep s) := by
  unfold Machine.loadAddressStep; split <;> exact .of_seq rfl

theorem loadReadStep (taken : Option (Vector Byte 16)) (s : State) : HistoryKept s (loadReadStep taken s) := by
  unfold Machine.loadReadStep
  split
  · split
    · exact endLoad _ _ _ s
    · split
      · exact .of_seq rfl
      · exact endLoad _ _ _ s
      · exact endLoad _ _ _ s
  · exact .refl s

theorem beginSave (image : List Byte) (s : State) : HistoryKept s (beginSave image s) := by
  unfold Machine.beginSave; split <;> exact .of_seq rfl

theorem saveTakenStep (s : State) : HistoryKept s (saveTakenStep s) := by
  unfold Machine.saveTakenStep; split <;> exact .of_seq rfl

theorem saveStoredStep (s : State) : HistoryKept s (saveStoredStep s) := by
  unfold Machine.saveStoredStep
  split
  · split
    · exact .of_seq rfl
    · split <;> exact .of_seq rfl
  · exact .refl s

theorem saveDeadlineStep (s : State) : HistoryKept s (saveDeadlineStep s) := by
  unfold Machine.saveDeadlineStep
  split
  · split <;> exact .of_seq rfl
  · exact .refl s

/-! ### A tick (R1, R197) -/

theorem takePistol (s : State) : HistoryKept s (takePistol s) :=
  (pistolEdgeStep s).trans ((shotAcceptedStep _).trans ((glitchStep _).trans (pistolHoldEndStep _)))

theorem takeLinks (s : State) : HistoryKept s (takeLinks s) :=
  ((forPorts (fun p t => (presenceActiveStep p t).trans (presenceInactiveStep p _)) allPorts s).trans
    (forPorts breakEndStep allPorts _)).trans ((forPorts silenceEndStep allPorts _).trans (forPorts helloWaitEndStep allPorts _))

theorem recallPulseEndStep (s : State) : HistoryKept s (recallPulseEndStep s) := .of_seq (by rw [recallPulseEndStep_writes])

theorem takeTimers (s : State) : HistoryKept s (takeTimers s) :=
  (((recallPulseEndStep s).trans (forLanes zeroTimeoutStep allLanes _)).trans (settleEndStep _)).trans
    ((windowCloseStep _).trans ((recallShotEndStep _).trans (forLanes heldAgeEndStep allLanes _)))

/-- Everything that a TICK takes but the reply keeps the records (entry 4). -/
theorem takeEvents (s : State) : HistoryKept s (takeEvents s) :=
  (((takePistol s).trans (takeLinks _)).trans (takeTimers _)).trans ((loadDeadlineStep _).trans (saveDeadlineStep _))

theorem firstTick (pins : Pins) (s : State) : HistoryKept s (firstTick pins s) := by
  obtain ⟨_, _, _, _, _, e⟩ := firstTick_writes pins s
  rw [e]; exact .of_seq rfl

theorem nextTick (pins : Pins) (upsets : List (LaneIx × Nat)) (s : State) : HistoryKept s (nextTick pins upsets s) := by
  unfold Machine.nextTick
  split
  · rw [(applyUpsets_spec upsets (advance pins s)).1]; exact .of_seq rfl
  · exact firstTick pins s

/-! ### The requests but MARKS (R173) -/

theorem traceFaults (l : LaneIx) (read : List (Nat × Slot)) (s : State) : HistoryKept s (traceFaults l read s) :=
  List.foldlRecOn (motive := HistoryKept s) _ _ (.refl s) fun _ ht _ _ => ht.trans (place _ _ _ _ _)

theorem laneSetAccepted (l : LaneIx) (e : LaneEntry) (s : State) : HistoryKept s (laneSetAccepted l e s) := by
  have reset : ∀ o before lane t, HistoryKept t (resetPort o before lane t) := fun o before lane t => by
    cases o with
    | none => exact .refl t
    | some p => exact tableReset p before lane t
  unfold Machine.laneSetAccepted
  refine after (b := s.setLane l e) ?_ rfl
  rw [laneSetResets_eq]
  split
  · split
    · exact reset _ _ _ _
    · exact .refl _
  · exact (reset _ _ _ _).trans (reset _ _ _ _)

theorem lineSetAccepted (c : LineSettings) (s : State) : HistoryKept s (lineSetAccepted c s) := by
  unfold Machine.lineSetAccepted
  simp only
  split
  · exact .of_seq rfl
  · exact (forPorts (fun p t => tableReset p _ _ t) allPorts _).after rfl

theorem ruleAccepted (id : Nat) (l : LaneIx) (d : Decision) (s : State) : HistoryKept s (ruleAccepted id l d s) :=
  (change (id := id) fun _ => .ruled l d).trans (.of_seq rfl)

/-- RECALL records its time in a record that has none (R148). -/
theorem recallServe (payload : List Byte) (s : State) : HistoryKept s (recallServe payload s).state := by
  have recalled : ∀ r : Record, r.Change { r with recallPulse := match r.recallPulse with | none => some s.clock | some t => some t } := by
    intro r
    convert Record.Change.recalled (r := r) s.clock using 2
    cases r.recallPulse <;> rfl
  unfold Machine.recallServe
  split
  · split
    · exact (change recalled).trans (.of_seq rfl)
    · exact .refl s
  · exact .refl s

theorem setRequest (payload : List Byte) (s : State) : HistoryKept s (setRequest payload s).state := by
  unfold Machine.setRequest
  split
  · next ho =>
    split
    · next hs => exact setAccepted ho hs
    · exact .refl s
  · exact .refl s
  · exact .refl s

/-- The owner of every request but MARKS keeps the records, whether it accepts or refuses. -/
theorem serveKind {k : Kind} (marks : k ≠ .marks) (payload : List Byte) (s : State) : HistoryKept s (serveKind k payload s).state := by
  cases k with
  | marks => exact absurd rfl marks
  | set => exact setRequest payload s
  | recallRequest => exact recallServe payload s
  | stand =>
    simp only [Machine.serveKind, standRequest]
    split
    · split
      · exact standClose _ s
      · exact .refl s
    · exact .refl s
    · exact .refl s
  | rule =>
    simp only [Machine.serveKind, ruleServe]
    (repeat' split) <;> first | exact ruleAccepted _ _ _ s | exact .of_seq rfl
  | laneSet =>
    simp only [Machine.serveKind, laneSetServe]
    (repeat' split) <;> first | exact laneSetAccepted _ _ s | exact .of_seq rfl
  | lineSet =>
    simp only [Machine.serveKind, lineSetServe]
    (repeat' split) <;> first | exact lineSetAccepted _ s | exact .of_seq rfl
  | trace =>
    simp only [Machine.serveKind, traceServe]
    (repeat' split) <;> first | exact traceFaults _ _ s | exact .of_seq rfl
  | storeSave =>
    simp only [Machine.serveKind, storeSaveServe]
    (repeat' split) <;> first | exact (beginSave _ _).after rfl | exact .of_seq rfl
  | status => simp only [Machine.serveKind, statusServe, accepted]; (repeat' split) <;> exact .of_seq rfl
  | port => simp only [Machine.serveKind, portServe, accepted]; (repeat' split) <;> exact .of_seq rfl
  | events => simp only [Machine.serveKind, eventsServe]; (repeat' split) <;> exact .of_seq rfl
  | laneGet => simp only [Machine.serveKind, laneGetServe]; (repeat' split) <;> exact .of_seq rfl
  | profileSet => simp only [Machine.serveKind, profileSetServe]; (repeat' split) <;> exact .of_seq rfl
  | profileGet => simp only [Machine.serveKind, profileGetServe]; (repeat' split) <;> exact .of_seq rfl
  | lineGet => simp only [Machine.serveKind, lineGetServe]; split <;> exact .of_seq rfl
  | zero => simp only [Machine.serveKind, zeroServe]; (repeat' split) <;> exact .of_seq rfl
  | record => simp only [Machine.serveKind, recordRequest]; (repeat' split) <;> exact .of_seq rfl
  | reserve => simp only [Machine.serveKind, reserveServe]; (repeat' split) <;> exact .of_seq rfl
  | restart => simp only [Machine.serveKind, restartServe]; split <;> exact .of_seq rfl

end HistoryKept

end Sys2Proof.Machine
end

section
/-! PROOFS. The record that MARKS creates, and the history that every command keeps in order (R80, R82 to R85, R88). -/

namespace Sys2Proof.Machine

/-! ### The removal of the oldest record and the creation of the new one (R83 to R86, R88) -/

/-- The history with room for a record: with 8 held, without the oldest (R85). -/
def roomFor (history : List Record) : List Record := if 8 ≤ history.length then history.tail else history

/-- The removal writes the history and the reservation alone (R85, R86). -/
theorem removeOldest_eq (s : State) : removeOldest s =
    { s with
      seq := { s.seq with history := roomFor s.seq.history },
      reservation := if 8 ≤ s.seq.history.length ∧ s.reservation = s.seq.history.head?.map (·.id) then none else s.reservation } := by
  unfold removeOldest
  by_cases full : 8 ≤ s.seq.history.length
  · obtain ⟨r, rest, hh⟩ := List.exists_cons_of_length_pos (l := s.seq.history) (by omega)
    have more : 7 ≤ rest.length := by simpa [hh] using full
    simp [hh, notice_eq, roomFor, more]
  · have keep : roomFor s.seq.history = s.seq.history := if_neg full
    rw [keep, if_neg fun h => full h.1]
    simp only [full, if_false]
    split <;> rfl

/-- The creation of a record by MARKS: steps 1 and 2 of R88. -/
def createRecord (heat : Nat) (lanes : List LaneIx) (s : State) : State :=
  { removeOldest s with
    seq := { s.seq with
      history := roomFor s.seq.history ++ [newRecord s.seq.nextId heat (attemptNumber heat (newestRecord s)) lanes],
      nextId := nextAttemptId s.seq.nextId } }

/-- MARKS creates the record, then ends the ZEROs, releases the rings, puts out the lamps, makes the detectors ready and reports the lanes
without a stream (R88, R89). -/
theorem marksAccepted_eq (heat : Nat) (lanes : List LaneIx) (s : State) : marksAccepted heat lanes s =
    forLanes lanes marksLink ((forPorts allPorts lampOff
      (releaseRings (forLanes lanes (fun l => failZero l 3#32) (createRecord heat lanes s)))).mapDetectors lanes
        (Detector.prepare s.seq.nextId)) := by
  simp only [marksAccepted, createRecord, removeOldest_eq]

/-- After the creation of its record MARKS keeps the records. -/
theorem marksAccepted_kept (heat : Nat) (lanes : List LaneIx) (s : State) :
    HistoryKept (createRecord heat lanes s) (marksAccepted heat lanes s) := by
  rw [marksAccepted_eq]
  refine .trans ?_ (.forLanes HistoryKept.marksLink lanes _)
  refine (HistoryKept.forLanes (fun l => .failZero l 3#32) lanes _).trans ?_
  have released : ∀ t, HistoryKept t (releaseRings t) := fun _ => .of_seq rfl
  have prepared : ∀ t, HistoryKept t (t.mapDetectors lanes (Detector.prepare s.seq.nextId)) := fun _ => .of_seq rfl
  exact (released _).trans ((HistoryKept.forPorts .lampOff allPorts _).trans (prepared _))

/-! ### The ids of the history (R83) -/

theorem nextAttemptId_range {id : Nat} (h : 1 ≤ id ∧ id ≤ 65535) : 1 ≤ nextAttemptId id ∧ nextAttemptId id ≤ 65535 := by
  unfold nextAttemptId; split <;> omega

theorem ChainedTo.tail {n : Nat} {ids : List Nat} (h : ChainedTo n ids) : ChainedTo n ids.tail := by
  match ids, h with
  | [], _ => trivial
  | [_], _ => trivial
  | _ :: _ :: _, h => exact h.2

/-- A chain goes on by the id that it leads to. -/
theorem ChainedTo.concat {n : Nat} : ∀ {ids : List Nat}, ChainedTo n ids → ChainedTo (nextAttemptId n) (ids ++ [n])
  | [], _ => rfl
  | [_], h => ⟨h, rfl⟩
  | _ :: _ :: _, h => ⟨h.1, ChainedTo.concat (ids := _ :: _) h.2⟩

theorem roomFor_length (history : List Record) (h : history.length ≤ 8) : (roomFor history).length ≤ 7 := by
  unfold roomFor
  split
  · rw [List.length_tail]; omega
  · omega

theorem roomFor_sublist (history : List Record) : (roomFor history).Sublist history := by
  unfold roomFor
  split
  · exact List.tail_sublist _
  · exact .refl _

/-- With no record open every record held is closed (R80). -/
theorem openRecord_none {s : State} (h : openRecord s = none) : ∀ r ∈ s.seq.history, r.isOpen = false := fun r hr => by
  simpa using List.find?_eq_none.mp h r hr

theorem newRecord_lanes (id heat number : Nat) (lanes : List LaneIx) : (newRecord id heat number lanes).lanes = lanes := by
  rw [Record.lanes, newRecord, List.map_map]
  exact List.map_id lanes

/-- A record created while none is open leaves the history in order (R80, R82 to R85). -/
theorem HistoryInv.createRecord {s : State} (h : HistoryInv s) (heat : Nat) {lanes : List LaneIx} (ho : openRecord s = none)
    (hl : lanes.Pairwise (· < ·)) : HistoryInv (createRecord heat lanes s) := by
  have held := (roomFor_sublist s.seq.history).subset
  have chain : ChainedTo s.seq.nextId ((roomFor s.seq.history).map (·.id)) := by
    unfold roomFor
    split
    · rw [List.map_tail]; exact h.chain.tail
    · exact h.chain
  have members : ∀ {P : Record → Prop}, (∀ r ∈ s.seq.history, P r) →
      P (newRecord s.seq.nextId heat (attemptNumber heat (newestRecord s)) lanes) →
      ∀ r ∈ (Machine.createRecord heat lanes s).seq.history, P r := by
    intro P old new r hr
    rcases List.mem_append.mp hr with hr | hr
    · exact old r (held hr)
    · rw [List.mem_singleton.mp hr]; exact new
  constructor
  case size =>
    have := roomFor_length s.seq.history h.size
    simp only [Machine.createRecord, List.length_append, List.length_singleton]
    omega
  case ids => exact members h.ids h.next
  case next => exact nextAttemptId_range h.next
  case chain => simpa only [Machine.createRecord, List.map_append, List.map_singleton, newRecord] using chain.concat
  case lanes => exact members h.lanes (by rw [newRecord_lanes]; exact hl)
  case closed =>
    simp only [Machine.createRecord, List.dropLast_concat]
    exact fun r hr => openRecord_none ho r (held hr)

theorem HistoryInv.afterReset (pins : Pins) (held : Bool) (pending : List Instr) : HistoryInv (State.afterReset pins held pending) := by
  constructor <;> simp [State.afterReset, sequencerReset, ChainedTo]

/-! ### Every command -/

/-- A property of states that stays when the records are kept and when a record is created while none is open, and that a reset meets. -/
structure RecordsClosed (P : State → Prop) : Prop where
  kept   : ∀ {s t : State}, P s → HistoryKept s t → P t
  create : ∀ {s : State} (heat : Nat) {lanes : List LaneIx}, P s → openRecord s = none → lanes.Pairwise (· < ·) →
    P (createRecord heat lanes s)
  reset  : ∀ (pins : Pins) (held : Bool) (pending : List Instr), P (State.afterReset pins held pending)

theorem lanesOfMask_ascending {mask : BitVec 16} {lanes : List LaneIx} (h : lanesOfMask mask = some lanes) : lanes.Pairwise (· < ·) := by
  unfold lanesOfMask at h
  split at h
  · cases h
  · rw [← Option.some.inj h]
    exact List.Pairwise.filter _ (by decide)

theorem openRecord_idle {s : State} (h : lineState s = .idle) : openRecord s = none := by
  rcases lineState_cases s with ⟨ho, _⟩ | ⟨r, _, ⟨_, hl⟩ | ⟨_, hl⟩ | ⟨_, hl⟩⟩
  · exact ho
  all_goals rw [hl] at h; cases h

namespace RecordsClosed

variable {P : State → Prop} (closed : RecordsClosed P) {s : State}
include closed

theorem marksRequest (h : P s) (payload : List Byte) : P (marksRequest payload s).state := by
  unfold Machine.marksRequest
  split
  · split
    · exact h
    · next lanes hl =>
      split
      · exact h
      · split
        · exact h
        · next idle =>
          exact closed.kept (closed.create _ h (openRecord_idle (not_not.mp idle)) (lanesOfMask_ascending hl)) (marksAccepted_kept _ _ s)
  · exact h

theorem serveRequest (h : P s) (code : Byte) (payload : List Byte) : P (serveRequest code payload s).state := by
  unfold Machine.serveRequest
  split
  · exact h
  · next k _ =>
    split
    · exact h
    · split
      · exact h
      · by_cases marks : k = .marks
        · subst marks; exact closed.marksRequest h payload
        · exact closed.kept h (.serveKind marks payload s)

theorem hostKeeps : HostKeeps P :=
  ⟨fun _ h => closed.kept h (.of_seq rfl), fun code payload h => closed.serveRequest h code payload, closed.reset⟩

theorem tickStep (h : P s) (pins : Pins) (upsets : List (LaneIx × Nat)) : P (tickStep pins upsets s) := by
  unfold Machine.tickStep
  split
  · rw [takeDue_eq]
    exact closed.kept (closed.hostKeeps.replyAbandonedStep (closed.kept h (.takeEvents s))) (.nextTick pins upsets _)
  · exact closed.kept h (.nextTick pins upsets s)

omit closed in
/-- A command on the running part keeps the property when its meaning does; a held part does not change. -/
theorem live {f : State → State} {t : State} (h : P s) (hf : P (f s)) (e : live f s = .next t) : P t := by
  unfold Machine.live at e
  split at e
  · cases e; exact h
  · cases e; exact hf

theorem live_kept {f : State → State} {t : State} (h : P s) (hf : HistoryKept s (f s)) (e : Machine.live f s = .next t) : P t :=
  live h (closed.kept h hf) e

/-- Whatever the command, the property stays: of the commands only MARKS creates a record, and none but a reset or MARKS removes one. -/
theorem exec {c : Instr} {t : State} (h : P s) (e : exec c s = .next t) : P t := by
  cases hr : requestOf c with
  | some request =>
    obtain ⟨code, r⟩ := request
    rw [exec_request hr] at e
    exact live h (closed.hostKeeps.requestArrives code r h) e
  | none =>
    cases c with
    | reset straps => cases e; exact closed.reset _ _ _
    | resetPinAsserted => cases e; exact closed.reset _ _ _
    | startUpFirstTick pins =>
      refine closed.live_kept h ?_ e
      unfold startUpFirstTickStep
      split
      · exact .refl s
      · exact .firstTick pins s
    | tick pins upsets => exact live h (closed.tickStep h pins upsets) e
    | requestFrameDropped bytes => exact live h (closed.hostKeeps.hostBytes bytes h) e
    | frameTimeout bytes =>
      exact live (f := fun t => quietPassed (hostBytes bytes t)) h
        (closed.hostKeeps.quietPassed (closed.hostKeeps.hostBytes bytes h)) e
    | mutedFrame bytes quiet =>
      refine live (f := fun t => if quiet then quietPassed (hostBytes bytes t) else hostBytes bytes t) h ?_ e
      split
      · exact closed.hostKeeps.quietPassed (closed.hostKeeps.hostBytes bytes h)
      · exact closed.hostKeeps.hostBytes bytes h
    | replyStart => exact live h (closed.hostKeeps.replyStartStep h) e
    | replySent => exact live h (closed.hostKeeps.replySentStep h) e
    | replyAbandoned2ms => exact live h (closed.hostKeeps.replyAbandonedStep h) e
    | pistolEdge => exact closed.live_kept h (.pistolEdgeStep s) e
    | shotAccepted => exact closed.live_kept h (.shotAcceptedStep s) e
    | glitch => exact closed.live_kept h (.glitchStep s) e
    | pistolHoldEnd => exact closed.live_kept h (.pistolHoldEndStep s) e
    | recallPulseEnd => exact closed.live_kept h (.recallPulseEndStep s) e
    | sampleFrame p rx => exact closed.live_kept h (.linkReceive p rx s) e
    | hello p rx => exact closed.live_kept h (.linkReceive p rx s) e
    | alive p rx => exact closed.live_kept h (.linkReceive p rx s) e
    | discardedStatusFrame p rx => exact closed.live_kept h (.linkReceive p rx s) e
    | badFrame p rx => exact closed.live_kept h (.linkReceive p rx s) e
    | silenceEndExpiry p => exact closed.live_kept h (.silenceEndStep p s) e
    | presenceActive p => exact closed.live_kept h (.presenceActiveStep p s) e
    | presenceInactive p => exact closed.live_kept h (.presenceInactiveStep p s) e
    | helloWaitEndExpiry p => exact closed.live_kept h (.helloWaitEndStep p s) e
    | breakEnd p => exact closed.live_kept h (.breakEndStep p s) e
    | outboundFrameSent p => exact closed.live_kept h (.outboundFrameSentStep p s) e
    | zeroTimeout l => exact closed.live_kept h (.zeroTimeoutStep l s) e
    | settleEndExpiry => exact closed.live_kept h (.settleEndStep s) e
    | windowCloseExpiry => exact closed.live_kept h (.windowCloseStep s) e
    | recallShotEndExpiry => exact closed.live_kept h (.recallShotEndStep s) e
    | heldAgeEndExpiry l => exact closed.live_kept h (.heldAgeEndStep l s) e
    | attnPulseStart =>
      refine closed.live_kept h ?_ e
      unfold attnPulseStartStep
      split <;> exact .of_seq rfl
    | attnPulseEnd => exact closed.live_kept (f := attnPulseEndStep) h (.of_seq rfl) e
    | loadAddressAcknowledged => exact closed.live_kept h (.loadAddressStep s) e
    | loadAcknowledgeDeadline => exact closed.live_kept h (.loadDeadlineStep s) e
    | loadRead taken => exact closed.live_kept h (.loadReadStep taken s) e
    | saveWriteTaken => exact closed.live_kept h (.saveTakenStep s) e
    | saveWriteStored => exact closed.live_kept h (.saveStoredStep s) e
    | saveAcknowledgeDeadline => exact closed.live_kept h (.saveDeadlineStep s) e
    | _ => cases hr

/-- A step takes the command from the queue, which concerns no record, and runs it. -/
theorem step {t : State} (h : P s) (e : step s = .next t) : P t := by
  unfold Machine.step at e
  split at e
  · cases e; exact h
  · refine closed.exec ?_ e
    exact closed.kept h (.of_seq rfl)

end RecordsClosed

/-- Settles O55: a command keeps the records, each changed in place, or MARKS creates one with the counter's id while none is open, or a
reset empties the history. -/
theorem historyStaysWellFormed : Obligations.HistoryStaysWellFormed := fun _ _ h e =>
  RecordsClosed.step ⟨HistoryInv.kept, fun heat _ h => h.createRecord heat, HistoryInv.afterReset⟩ h e

end Sys2Proof.Machine
end

section
/-! PROOFS. MARKS: the record created, and what follows for the ZEROs, the rings, the lamps and the detectors (R84, R87 to R89, R103). -/

namespace Sys2Proof.Machine

/-! ### One report to each of several lanes -/

/-- A record with the results of these lanes changed, each by the change of its lane. -/
def Record.onLanes (ls : List LaneIx) (g : LaneIx → LaneResult → LaneResult) (r : Record) : Record :=
  { r with results := r.results.map fun x => if x.lane ∈ ls then g x.lane x else x }

theorem Record.onLanes_nil (g : LaneIx → LaneResult → LaneResult) (r : Record) : r.onLanes [] g = r := by simp [Record.onLanes]

/-- Lanes are changed one after another. -/
theorem Record.onLanes_cons {l : LaneIx} {ls : List LaneIx} {g : LaneIx → LaneResult → LaneResult} (r : Record)
    (hg : ∀ k x, (g k x).lane = x.lane) (hl : l ∉ ls) : (r.onLane l (g l)).onLanes ls g = r.onLanes (l :: ls) g := by
  simp only [Record.onLanes, Record.onLane, List.map_map]
  congr 1
  refine List.map_congr_left fun x _ => ?_
  by_cases hx : x.lane = l
  · simp [hx, hg, hl]
  · simp [hx]

theorem Record.onLanes_lanes (ls : List LaneIx) {g : LaneIx → LaneResult → LaneResult} (r : Record) (hg : ∀ k x, (g k x).lane = x.lane) :
    (r.onLanes ls g).lanes = r.lanes := by
  rw [Record.lanes, Record.onLanes, List.map_map]
  refine List.map_congr_left fun x _ => ?_
  rw [Function.comp_apply]
  split
  · exact hg _ x
  · rfl

/-! ### The ZEROs that MARKS ends (R78, entry 21) -/

theorem failZero_openId (l : LaneIx) (reason : BitVec 32) (s : State) : openId (failZero l reason s) = openId s := by
  unfold failZero; split <;> rfl

/-- Each ZERO in flight on the lanes given ends, with its ZERO_FAIL, and nothing else changes. -/
theorem failZeros_eq {ls : List LaneIx} (nodup : ls.Nodup) (reason : BitVec 32) (s : State) :
    forLanes ls (fun l => failZero l reason) s =
      { s with
        zeros := Vector.ofFn fun l => if l ∈ ls then none else s.zero l,
        events := (ls.filter fun l => (s.zero l).isSome).foldl (fun q l => arrive s.line.attnMode
          { kind := .zeroFail, time := s.clock, lane := some l, attempt := openId s, value := reason } q) s.events } := by
  induction ls generalizing s with
  | nil => simp [forLanes, State.zero, Vector.ofFn_getElem]
  | cons l ls ih =>
    obtain ⟨hl, hls⟩ := List.nodup_cons.mp nodup
    have zeros : ∀ k, (failZero l reason s).zero k = if k = l then none else s.zero k := fun k => by
      rw [State.zero, failZero_zeros, Fin.getElem_fin, Vector.getElem_set]
      simp [Fin.ext_iff, eq_comm (a := k.val), State.zero]
    have later : ls.filter (fun k => ((failZero l reason s).zero k).isSome) = ls.filter fun k => (s.zero k).isSome :=
      List.filter_congr fun k hk => by rw [zeros, if_neg fun e : k = l => hl (e ▸ hk)]
    have step : forLanes (l :: ls) (fun l => failZero l reason) s = forLanes ls (fun l => failZero l reason) (failZero l reason s) := rfl
    rw [step, ih hls, later, failZero_openId]
    have written : (fun k => if k ∈ ls then none else (failZero l reason s).zero k) = fun k => if k ∈ l :: ls then none else s.zero k := by
      funext k
      simp only [zeros, List.mem_cons]
      by_cases hk : k = l <;> simp [hk]
    rw [written]
    by_cases hz : s.zero l = none
    · rw [failZero_none reason hz, List.filter_cons_of_neg (by simp [hz])]
    · rw [failZero_some reason hz, List.filter_cons_of_pos (by simp [Option.isSome_iff_ne_none, hz])]
      rfl

/-! ### The lamps that MARKS puts out (R37) -/

/-- A port after lamp-off has been offered where its lamp is on (R37). -/
def Port.lampPutOut (x : Port) : Port :=
  if x.link = .streaming ∧ x.lamp = true then { offerFrame .lampOff x with lamp := false } else x

theorem lampOff_eq (p : PortIx) (s : State) : lampOff p s = s.setPort p (s.port p).lampPutOut := by
  unfold lampOff Port.lampPutOut
  split
  · rfl
  · rw [State.setPort_self]

theorem Port.lampPutOut_link (x : Port) : x.lampPutOut.link = x.link ∧ x.lampPutOut.mismatched = x.mismatched := by
  unfold Port.lampPutOut
  split
  · rw [offerFrame_writes]; exact ⟨rfl, rfl⟩
  · exact ⟨rfl, rfl⟩

theorem lampsOff_writes (ps : List PortIx) (s : State) : forPorts ps lampOff s = { s with ports := (forPorts ps lampOff s).ports } :=
  forPorts_induct (P := fun t => t = { s with ports := t.ports }) ps rfl fun p _ t ht => by
    rw [lampOff_eq]; exact congrArg (fun u : State => u.setPort p (t.port p).lampPutOut) ht

theorem lampsOff_port {ps : List PortIx} (nodup : ps.Nodup) (s : State) (q : PortIx) :
    (forPorts ps lampOff s).port q = if q ∈ ps then (s.port q).lampPutOut else s.port q := by
  induction ps generalizing s with
  | nil => simp [forPorts]
  | cons p ps ih =>
    obtain ⟨hp, hps⟩ := List.nodup_cons.mp nodup
    have step : forPorts (p :: ps) lampOff s = forPorts ps lampOff (lampOff p s) := rfl
    simp only [step, ih hps, lampOff_eq, State.setPort_port, List.mem_cons]
    by_cases hq : p = q
    · subst hq; simp [hp]
    · simp [hq, Ne.symm hq]

/-! ### The lanes without a stream (R89) -/

theorem LaneFlags.union_none (f : LaneFlags) : f.union {} = f := by simp [LaneFlags.union]

/-- A report without a flag changes nothing. -/
theorem reportFlags_none (l : LaneIx) (s : State) : reportFlags l {} s = s := by
  unfold reportFlags
  split
  · rfl
  · have same : ∀ r : Record, (r.onLane l fun x => { x with flags := x.flags.union {} }) = r := fun r => by
      simp [Record.onLane, LaneFlags.union_none]
    simp [changeRecord, same]

/-- A lane that waits for SET is reported, and its link noted as out, when it has no stream. -/
theorem marksLink_waiting {l : LaneIx} {s : State} (hd : (s.detector l).state = .off) (ha : (s.detector l).attempt ≠ none)
    (hl : (s.detector l).linkOut = false) : marksLink l s =
      reportFlags l { link := !hasStream s l } (s.setDetector l { s.detector l with linkOut := !hasStream s l }) := by
  unfold marksLink
  cases hs : hasStream s l with
  | true =>
    rw [if_pos rfl, Bool.not_true, reportFlags_none, ← hl, State.setDetector_self]
  | false => exact streamEnded_waiting (.inl ⟨hd, ha, hl⟩)

/-- The flag that MARKS gives the result of a lane. -/
def linkFlag (s : State) (l : LaneIx) (x : LaneResult) : LaneResult := { x with flags := x.flags.union { link := !hasStream s l } }

/-- What the reports of the lanes without a stream leave, `r` being the open record before them. -/
structure LinksTold (ls : List LaneIx) (pre : List Record) (r : Record) (s t : State) : Prop where
  frame       : OnlyRecords s t
  newest      : NewestOpen pre (r.onLanes ls (linkFlag s)) t
  detectors   : ∀ l, t.detector l = if l ∈ ls then { s.detector l with linkOut := !hasStream s l } else s.detector l
  reservation : s.reservation ≠ some r.id → t.reservation = s.reservation
  cleared     : s.reservation = none → t.reservation = none
  nextId      : t.seq.nextId = s.seq.nextId

theorem hasStream_congr {s t : State} (hm : t.laneMap = s.laneMap) (hp : ∀ p, (t.port p).link = (s.port p).link
    ∧ (t.port p).mismatched = (s.port p).mismatched) (l : LaneIx) : hasStream t l = hasStream s l := by
  have lane : t.lane l = s.lane l := by rw [State.lane, hm, State.lane]
  unfold hasStream
  rw [lane]
  split
  · rfl
  · rw [(hp _).1, (hp _).2]

theorem OnlyRecords.hasStream {s t : State} (h : OnlyRecords s t) : hasStream t = hasStream s := by
  funext l
  exact hasStream_congr h.laneMap (fun p => by rw [State.port, h.ports]; exact ⟨rfl, rfl⟩) l

theorem marksLinks_told {ls : List LaneIx} (nodup : ls.Nodup) {pre : List Record} {r : Record} {s : State} (newest : NewestOpen pre r s)
    (waits : ∀ l ∈ ls, (s.detector l).state = .off ∧ (s.detector l).attempt ≠ none ∧ (s.detector l).linkOut = false) :
    LinksTold ls pre r s (forLanes ls marksLink s) := by
  induction ls generalizing s r with
  | nil => exact ⟨.refl s, by rw [Record.onLanes_nil]; exact newest, fun l => by simp [forLanes], fun _ => rfl, id, rfl⟩
  | cons l ls ih =>
    obtain ⟨hl, hls⟩ := List.nodup_cons.mp nodup
    obtain ⟨hd, ha, ho⟩ := waits l (by simp)
    have told := marksLink_waiting hd ha ho
    set u := s.setDetector l { s.detector l with linkOut := !hasStream s l } with hu
    have before : NewestOpen pre r u := newest.of_history rfl
    have changed : marksLink l s = changeRecord r.id (fun r => r.onLane l (linkFlag s l)) u := by
      rw [told, reportFlags, before.openRecord]; rfl
    have frame : OnlyRecords s (marksLink l s) := by
      rw [changed]; exact (OnlyRecords.setDetector s l _).trans (.changeRecord _ _ _)
    have detector : ∀ k, (marksLink l s).detector k =
        if l = k then { s.detector l with linkOut := !hasStream s l } else s.detector k := fun k => by
      rw [State.detector, changed, changeRecord_detectors]; exact State.setDetector_detector s l k _
    have first : NewestOpen pre (r.onLane l (linkFlag s l)) (marksLink l s) := by
      rw [changed]; exact before.change (fun r => r.onLane l (linkFlag s l)) rfl before.isOpen
    have rest := ih (s := marksLink l s) hls first fun k hk => by
      rw [detector, if_neg fun e : l = k => hl (e ▸ hk)]; exact waits k (List.mem_cons_of_mem _ hk)
    have flag : linkFlag (marksLink l s) = linkFlag s := by
      funext k x; unfold linkFlag; rw [frame.hasStream]
    have reserved : (marksLink l s).reservation = s.reservation
        ∨ ((marksLink l s).reservation = none ∧ s.reservation = some r.id) := by
      have report := (LaneReport.onLane before.openRecord l (linkFlag s l)).reservation
      have id : openId u = r.id := by simp [openId, before.openRecord]
      rw [← changed, id] at report
      exact report
    refine ⟨frame.trans rest.frame, ?_, fun k => ?_, fun hr => ?_, fun hr => ?_, ?_⟩
    · have := rest.newest
      rwa [flag, Record.onLanes_cons (g := linkFlag s) r (fun _ _ => rfl) hl] at this
    · refine (rest.detectors k).trans ?_
      simp only [detector, frame.hasStream, List.mem_cons]
      by_cases hk : l = k
      · subst hk; simp [hl]
      · simp [hk, Ne.symm hk]
    · have same := reserved.resolve_right fun h => hr h.2
      exact (rest.reservation (by rw [same]; exact hr)).trans same
    · refine rest.cleared (reserved.elim (fun same => same.trans hr) fun h => h.1)
    · refine rest.nextId.trans ?_
      rw [changed, changeRecord_nextId]; rfl

/-! ### An accepted MARKS (R88) -/

/-- The part when MARKS has made the set's detectors ready, before the lanes without a stream are reported: steps 1 to 6 of R88. -/
def marksReady (heat : Nat) (lanes : List LaneIx) (s : State) : State :=
  { createRecord heat lanes s with
    zeros := Vector.ofFn fun l => if l ∈ lanes then none else s.zero l,
    events := (lanes.filter fun l => (s.zero l).isSome).foldl (fun q l => arrive s.line.attnMode
      { kind := .zeroFail, time := s.clock, lane := some l, attempt := s.seq.nextId, value := 3#32 } q) s.events,
    rings := s.rings.map Ring.release,
    assemblers := Vector.ofFn fun l =>
      if (s.ring l).frozenBy.isSome then { s.assembler l with gapPending := true } else s.assembler l,
    ports := Vector.ofFn fun p => (s.port p).lampPutOut,
    detectors := Vector.ofFn fun l => if l ∈ lanes then { detectorReset with attempt := some s.seq.nextId } else s.detector l }

/-- The record that MARKS creates (R82, R84). -/
def marksRecord (heat : Nat) (lanes : List LaneIx) (s : State) : Record :=
  newRecord s.seq.nextId heat (attemptNumber heat (newestRecord s)) lanes

/-- The record created is the open one, the newest, when none was open (R80, R88). -/
theorem createRecord_newest {s : State} (h : HistoryInv s) (heat : Nat) {lanes : List LaneIx} (ho : openRecord s = none)
    (hl : lanes.Pairwise (· < ·)) : NewestOpen (roomFor s.seq.history) (marksRecord heat lanes s) (createRecord heat lanes s) := by
  have opened : openRecord (createRecord heat lanes s) = some (marksRecord heat lanes s) := by
    have closed := fun r hr => openRecord_none ho r ((roomFor_sublist s.seq.history).subset hr)
    have none : (roomFor s.seq.history).find? Record.isOpen = none := List.find?_eq_none.mpr fun r hr => by simp [closed r hr]
    simp only [openRecord, createRecord, List.find?_append, none, Option.none_or]
    rfl
  have newest := (h.createRecord heat ho hl).newestOpen opened
  have before : (createRecord heat lanes s).seq.history.dropLast = roomFor s.seq.history := List.dropLast_concat ..
  rwa [before] at newest

theorem marksAccepted_ready {s : State} (h : HistoryInv s) (heat : Nat) {lanes : List LaneIx} (ho : openRecord s = none)
    (hl : lanes.Pairwise (· < ·)) : marksAccepted heat lanes s = forLanes lanes marksLink (marksReady heat lanes s) := by
  have id : openId (createRecord heat lanes s) = s.seq.nextId := by
    simp [openId, (createRecord_newest h heat ho hl).openRecord, marksRecord, newRecord]
  have created : createRecord heat lanes s =
      { s with seq := (createRecord heat lanes s).seq, reservation := (createRecord heat lanes s).reservation } := by
    simp only [createRecord, removeOldest_eq]
  have ports : ∀ t : State, (forPorts allPorts lampOff t).ports = Vector.ofFn fun p => (t.port p).lampPutOut := fun t => by
    refine Vector.ext fun i hi => ?_
    have := lampsOff_port allPorts_nodup t ⟨i, hi⟩
    rw [if_pos (mem_allPorts _)] at this
    rw [Vector.getElem_ofFn]
    exact this
  rw [marksAccepted_eq, failZeros_eq (hl.imp ne_of_lt), id, lampsOff_writes, ports]
  congr 1
  unfold marksReady
  rw [created]
  rfl

/-! ### The payload of MARKS (R87, R198) -/

theorem append_halves (v : BitVec 16) : (v.extractLsb' 8 8 ++ v.extractLsb' 0 8 : BitVec 16) = v := by
  rw [BitVec.extractLsb'_append_extractLsb'_eq_extractLsb' (by rfl)]
  simp

theorem rd16_halves (v : BitVec 16) : rd16 (v.extractLsb' 8 8) (v.extractLsb' 0 8) = v.toNat := by
  rw [rd16, append_halves]

theorem upperBits_zero (mask : BitVec 16) : mask.extractLsb' 11 5 = 0#5 ↔ ∀ i, 11 ≤ i → i ≤ 15 → mask.getLsbD i = false := by
  rw [BitVec.eq_of_getLsbD_eq_iff]
  simp only [BitVec.getLsbD_extractLsb', BitVec.getLsbD_zero]
  constructor
  · intro h i lower upper
    have := h (i - 11) (by omega)
    rwa [decide_eq_true (by omega), Bool.true_and, Nat.add_sub_cancel' lower] at this
  · intro h i hi
    rw [h (11 + i) (by omega) (by omega), Bool.and_false]

theorem lanesOfMask_none {mask : BitVec 16} (h : mask = 0#16 ∨ mask.getLsbD 0 = true ∨ ∃ i, 11 ≤ i ∧ i ≤ 15 ∧ mask.getLsbD i = true) :
    lanesOfMask mask = none := by
  refine if_pos (h.imp_right (.imp_right ?_))
  rintro ⟨i, lower, upper, hi⟩ hz
  rw [(upperBits_zero mask).mp hz i lower upper] at hi
  cases hi

theorem lanesOfMask_some {mask : BitVec 16} (h0 : mask ≠ 0#16) (h1 : mask.getLsbD 0 = false)
    (h2 : ∀ i, 11 ≤ i → i ≤ 15 → mask.getLsbD i = false) :
    lanesOfMask mask = some (allLanes.filter fun l => mask.getLsbD (laneNumber l)) := by
  refine if_neg ?_
  rintro (h | h | h)
  · exact h0 h
  · rw [h1] at h; cases h
  · exact h ((upperBits_zero mask).mpr h2)

/-- MARKS on the two halves of a heat and of a mask that names no lane set (R87). -/
theorem marksRequest_noLanes {heat mask : BitVec 16} (s : State) (h : lanesOfMask mask = none) :
    marksRequest [heat.extractLsb' 8 8, heat.extractLsb' 0 8, mask.extractLsb' 8 8, mask.extractLsb' 0 8] s = refuse s .badValue := by
  simp only [marksRequest, append_halves, h]

/-- MARKS on the two halves of a heat and of a lane mask (R87). -/
theorem marksRequest_lanes {heat mask : BitVec 16} {lanes : List LaneIx} (s : State) (h : lanesOfMask mask = some lanes) :
    marksRequest [heat.extractLsb' 8 8, heat.extractLsb' 0 8, mask.extractLsb' 8 8, mask.extractLsb' 0 8] s =
      if heat.toNat = 0 ∨ lanes.any (fun l => (s.lane l).port.isNone) then refuse s .badValue
      else if lineState s ≠ .idle then refuse s .state
      else accepted (marksAccepted heat.toNat lanes s)
        (be16 s.seq.nextId ++ be8 (attemptNumber heat.toNat (newestRecord s))) := by
  simp only [marksRequest, append_halves, rd16_halves, h]

/-- A heat of 0, a mask that is 0 or names no lane, or a lane without a port (R87). -/
theorem marksRequest_badValue {heat mask : BitVec 16} {s : State}
    (h : heat = 0#16 ∨ mask = 0#16 ∨ mask.getLsbD 0 = true ∨ (∃ i, 11 ≤ i ∧ i ≤ 15 ∧ mask.getLsbD i = true)
      ∨ ∃ l, mask.getLsbD (laneNumber l) = true ∧ (s.lane l).port = none) :
    marksRequest [heat.extractLsb' 8 8, heat.extractLsb' 0 8, mask.extractLsb' 8 8, mask.extractLsb' 0 8] s = refuse s .badValue := by
  by_cases bad : mask = 0#16 ∨ mask.getLsbD 0 = true ∨ ∃ i, 11 ≤ i ∧ i ≤ 15 ∧ mask.getLsbD i = true
  · exact marksRequest_noLanes s (lanesOfMask_none bad)
  · obtain ⟨h0, h1, h2⟩ : mask ≠ 0#16 ∧ mask.getLsbD 0 = false ∧ ∀ i, 11 ≤ i → i ≤ 15 → mask.getLsbD i = false := by
      push Not at bad
      exact ⟨bad.1, by simpa using bad.2.1, fun i lower upper => by simpa using bad.2.2 i lower upper⟩
    refine (marksRequest_lanes s (lanesOfMask_some h0 h1 h2)).trans (if_pos ?_)
    rcases h with h | h | h | h | ⟨l, hl, hp⟩
    · exact .inl (by rw [h]; rfl)
    · exact absurd (.inl h) bad
    · exact absurd (.inr (.inl h)) bad
    · exact absurd (.inr (.inr h)) bad
    · refine .inr (List.any_eq_true.mpr ⟨l, List.mem_filter.mpr ⟨mem_allLanes l, hl⟩, by simp [hp]⟩)

/-- A MARKS whose values stand, by the line state (R87). -/
theorem marksRequest_named {heat mask : BitVec 16} {s : State} (hh : heat ≠ 0#16) (h0 : mask ≠ 0#16) (h1 : mask.getLsbD 0 = false)
    (h2 : ∀ i, 11 ≤ i → i ≤ 15 → mask.getLsbD i = false) {lanes : List LaneIx}
    (hl : lanes = allLanes.filter fun l => mask.getLsbD (laneNumber l)) (ports : ∀ l ∈ lanes, (s.lane l).port ≠ none) :
    marksRequest [heat.extractLsb' 8 8, heat.extractLsb' 0 8, mask.extractLsb' 8 8, mask.extractLsb' 0 8] s =
      if lineState s ≠ .idle then refuse s .state
      else accepted (marksAccepted heat.toNat lanes s) (be16 s.seq.nextId ++ be8 (attemptNumber heat.toNat (newestRecord s))) := by
  refine (marksRequest_lanes s (hl ▸ lanesOfMask_some h0 h1 h2)).trans (if_neg ?_)
  rintro (h | h)
  · exact hh (BitVec.eq_of_toNat_eq h)
  · obtain ⟨l, hm, hp⟩ := List.any_eq_true.mp h
    exact ports l hm (by simpa using hp)

/-! ### MARKS and the attempt number, settled -/

theorem marksRecord_flagged {heat : Nat} {lanes : List LaneIx} {s d : State} {x : LaneResult}
    (h : x ∈ ((marksRecord heat lanes s).onLanes lanes (linkFlag d)).results) :
    x = { newResult x.lane with flags := { link := !hasStream d x.lane } } := by
  obtain ⟨y, hy, rfl⟩ := List.mem_map.mp h
  obtain ⟨l, hl, rfl⟩ := List.mem_map.mp hy
  have named : (newResult l).lane ∈ lanes := hl
  rw [if_pos named]
  simp [linkFlag, newResult, LaneFlags.union]

theorem roomFor_eq {history : List Record} (h : history.length ≤ 8) :
    roomFor history = if history.length = 8 then history.tail else history := by
  unfold roomFor
  exact if_congr ⟨fun full => le_antisymm h full, ge_of_eq⟩ rfl rfl

theorem createRecord_reservation (heat : Nat) (lanes : List LaneIx) (s : State) : (createRecord heat lanes s).reservation =
    if 8 ≤ s.seq.history.length ∧ s.reservation = s.seq.history.head?.map (·.id) then none else s.reservation := by
  simp only [createRecord, removeOldest_eq]

/-- Settles O17: the values are tested, then the line state; an accepted MARKS is `marksReady`, in which the new record is open, followed by
the reports of the lanes without a stream. -/
theorem marksOpensAttempt : Obligations.MarksOpensAttempt := by
  refine ⟨fun s r heat mask hs hp => ⟨fun h => ?_, fun hh h0 h1 h2 ports busy => ?_⟩,
    fun s r heat mask lanes hs hp hh h0 h1 h2 hl ports idle hi => ?_⟩
  · exact hs.refused .marks rfl hp rfl (by decide) (marksRequest_badValue h)
  · refine hs.refused .marks rfl hp rfl (by decide) ((marksRequest_named hh h0 h1 h2 rfl fun l hl => ?_).trans (if_pos busy))
    exact ports l (List.mem_filter.mp hl).2
  · have ho := openRecord_idle idle
    have ascending := lanesOfMask_ascending (hl ▸ lanesOfMask_some h0 h1 h2)
    have newest := createRecord_newest hi heat.toNat ho ascending
    have taken := (marksRequest_named hh h0 h1 h2 hl ports).trans (if_neg (not_not.mpr idle))
    rw [marksAccepted_ready hi heat.toNat ho ascending] at taken
    have ready : marksReady heat.toNat lanes s = { s with
        seq := (marksReady heat.toNat lanes s).seq, reservation := (createRecord heat.toNat lanes s).reservation,
        zeros := (marksReady heat.toNat lanes s).zeros, events := (marksReady heat.toNat lanes s).events,
        rings := (marksReady heat.toNat lanes s).rings, assemblers := (marksReady heat.toNat lanes s).assemblers,
        ports := (marksReady heat.toNat lanes s).ports, detectors := (marksReady heat.toNat lanes s).detectors } := by
      simp only [marksReady, createRecord, removeOldest_eq]
    have reserved := createRecord_reservation heat.toNat lanes s
    set d := marksReady heat.toNat lanes s with hd
    have detector : ∀ l, d.detector l = if l ∈ lanes then { detectorReset with attempt := some s.seq.nextId } else s.detector l :=
      fun l => by rw [State.detector, hd, marksReady, Fin.getElem_fin, Vector.getElem_ofFn]
    have port : ∀ p, d.port p = (s.port p).lampPutOut := fun p => by
      rw [State.port, hd, marksReady, Fin.getElem_fin, Vector.getElem_ofFn]
    have told := marksLinks_told (ascending.imp ne_of_lt) (newest.of_history (t := d) rfl) fun l hm => by
      rw [detector, if_pos hm]; exact ⟨rfl, nofun, rfl⟩
    have stream : ∀ l, hasStream d l = hasStream s l :=
      hasStream_congr (by rw [ready]) fun p => by rw [port]; exact Port.lampPutOut_link _
    have tport : ∀ p, (forLanes lanes marksLink d).port p = (s.port p).lampPutOut := fun p => by
      rw [State.port, told.frame.ports]; exact port p
    have tassembler : ∀ l, (forLanes lanes marksLink d).assembler l =
        if (s.ring l).frozenBy.isSome then { s.assembler l with gapPending := true } else s.assembler l := fun l => by
      rw [State.assembler, told.frame.assemblers, hd, marksReady, Fin.getElem_fin, Vector.getElem_ofFn]
    have tzero : ∀ l, (forLanes lanes marksLink d).zero l = if l ∈ lanes then none else s.zero l := fun l => by
      rw [State.zero, told.frame.zeros, hd, marksReady, Fin.getElem_fin, Vector.getElem_ofFn]
    have host : (forLanes lanes marksLink d).host = s.host := by rw [told.frame.host, ready]
    refine ⟨_, (marksRecord heat.toNat lanes s).onLanes lanes (linkFlag d), hs.accepted .marks rfl hp rfl (by decide) taken host,
      ?_, rfl, rfl, rfl, ?_, rfl, rfl, rfl, rfl, rfl, rfl, fun x hx => ?_, ?_, fun l => ?_, fun l hf => ?_, fun l hm => ?_,
      fun l hm => ⟨?_, ?_⟩, fun l hm => ?_, fun p hs hl => ?_, fun p hn => ?_, fun l hf => ?_, ?_, fun old full head res => ?_,
      fun hn kept => ?_, ?_⟩
    · rw [← roomFor_eq hi.size]; exact told.newest.history
    · rw [Record.onLanes_lanes (g := linkFlag d) lanes _ fun _ _ => rfl, marksRecord, newRecord_lanes]
    · rw [← stream x.lane]; exact marksRecord_flagged hx
    · refine told.nextId.trans ?_
      have := hi.next
      show nextAttemptId s.seq.nextId = if s.seq.nextId = 65535 then 1 else s.seq.nextId + 1
      unfold nextAttemptId
      split <;> split <;> omega
    · show (forLanes lanes marksLink d).ring l = _
      rw [State.ring, told.frame.rings, hd, marksReady, Fin.getElem_fin, Vector.getElem_map]
      rfl
    · show ((forLanes lanes marksLink d).assembler l).gapPending = true
      rw [tassembler, if_pos (Option.isSome_iff_ne_none.mpr hf)]
    · exact (tzero l).trans (if_pos hm)
    · exact (tzero l).trans (if_neg hm)
    · refine (told.detectors l).trans ((if_neg hm).trans ?_)
      rw [detector, if_neg hm]
    · refine (told.detectors l).trans ((if_pos hm).trans ?_)
      rw [detector, if_pos hm, stream]
    · exact (tport p).trans (if_pos ⟨hs, hl⟩)
    · refine (tport p).trans (if_neg fun h => ?_)
      rcases hn with hn | hn
      · exact hn h.1
      · rw [h.2] at hn; cases hn
    · exact (tassembler l).trans (if_neg (by simp [hf]))
    · exact told.frame.events
    · refine told.cleared ?_
      rw [ready]
      refine reserved.trans (if_pos ⟨full.ge, ?_⟩)
      rw [res, head]; rfl
    · have same : d.reservation = s.reservation := by
        rw [ready]
        refine reserved.trans (if_neg fun ⟨full, e⟩ => ?_)
        obtain ⟨old, rest, hh⟩ := List.exists_cons_of_length_pos (l := s.seq.history) (by omega)
        rw [hh] at e
        exact kept (le_antisymm hi.size full) old (by rw [hh]; rfl) e
      exact (told.reservation (by rw [same]; exact hn)).trans same
    · exact ⟨told.frame.clock.trans (by rw [ready]), told.frame.pistol.trans (by rw [ready]), told.frame.laneMap.trans (by rw [ready]),
        told.frame.profiles.trans (by rw [ready]), told.frame.line.trans (by rw [ready]), told.frame.driver.trans (by rw [ready]),
        told.frame.store.trans (by rw [ready]), rfl⟩

/-! ### The attempt number (R84) -/

/-- Heat and attempt number of each record held. -/
def tallies (s : State) : List (Nat × Nat) := s.seq.history.map fun r => (r.heat, r.number)

/-- A report changes a result, and neither heat nor number. -/
theorem tallies_onLane (id : Nat) (l : LaneIx) (g : LaneResult → LaneResult) (s : State) :
    tallies (changeRecord id (fun r => r.onLane l g) s) = tallies s := by
  rw [tallies, changeRecord_history, List.map_map]
  refine List.map_congr_left fun r _ => ?_
  rw [Function.comp_apply]
  split <;> rfl

theorem tallies_reportFlags (l : LaneIx) (f : LaneFlags) (s : State) : tallies (reportFlags l f s) = tallies s := by
  unfold reportFlags
  split
  · rfl
  · exact tallies_onLane _ _ _ s

theorem tallies_reportUnsure (l : LaneIx) (f : LaneFlags) (s : State) : tallies (reportUnsure l f s) = tallies s := by
  unfold reportUnsure
  split
  · rfl
  · split
    · exact tallies_onLane _ _ _ s
    · exact tallies_reportFlags l f s

theorem tallies_streamEnded (l : LaneIx) (s : State) : tallies (streamEnded l s) = tallies s := by
  have flags := fun d f => tallies_reportFlags l f (s.setDetector l d)
  have unsure := fun d f => tallies_reportUnsure l f (s.setDetector l d)
  unfold streamEnded
  simp only
  split
  · split
    · exact flags _ _
    · rfl
  · exact flags _ _
  · exact flags _ _
  · split
    · exact unsure _ _
    · exact flags _ _
  · split
    · exact unsure _ _
    · exact flags _ _
  · split
    · exact flags _ _
    · rfl

theorem tallies_marksLink (l : LaneIx) (s : State) : tallies (marksLink l s) = tallies s := by
  unfold marksLink
  split
  · rfl
  · exact tallies_streamEnded l s

theorem failZero_seq (l : LaneIx) (reason : BitVec 32) (s : State) : (failZero l reason s).seq = s.seq := by
  unfold failZero; split <;> rfl

/-- What follows the creation of the record keeps heat and number of each record. -/
theorem tallies_marksAccepted (heat : Nat) (lanes : List LaneIx) (s : State) :
    tallies (marksAccepted heat lanes s) = tallies (createRecord heat lanes s) := by
  rw [marksAccepted_eq]
  refine forLanes_induct (P := fun t => tallies t = tallies (createRecord heat lanes s)) lanes ?_
    fun l _ t ht => (tallies_marksLink l t).trans ht
  have failed : (forLanes lanes (fun l => failZero l 3#32) (createRecord heat lanes s)).seq = (createRecord heat lanes s).seq :=
    forLanes_induct (P := fun t => t.seq = (createRecord heat lanes s).seq) lanes rfl fun l _ t ht => (failZero_seq l _ t).trans ht
  generalize forLanes lanes (fun l => failZero l 3#32) (createRecord heat lanes s) = t at failed
  rw [lampsOff_writes, tallies, tallies, ← failed]
  rfl

/-- Settles O18: the number is read off `attemptNumber`, and neither the removal of the oldest record nor what follows the creation of the
new one reaches it. -/
theorem attemptNumberInHeat : Obligations.AttemptNumberInHeat := by
  refine ⟨fun _ => rfl, fun heat r => ⟨fun h => if_neg h, fun h hn => ?_, fun h hn => ?_⟩, fun heat lanes s => ?_, fun s => ?_,
    fun _ _ _ => rfl⟩
  · rw [attemptNumber, if_pos h]; omega
  · rw [attemptNumber, if_pos h]; omega
  · have newest := congrArg List.getLast? (tallies_marksAccepted heat lanes s)
    simp only [tallies, List.getLast?_map, createRecord, List.getLast?_concat, Option.map_some, Option.map_eq_some_iff,
      Prod.mk.injEq] at newest
    obtain ⟨rec, last, heat, number⟩ := newest
    exact ⟨rec, last, heat, number⟩
  · rw [removeOldest_eq]
    show (roomFor s.seq.history).getLast? = s.seq.history.getLast?
    unfold roomFor
    split
    · rw [List.getLast?_tail, if_neg (by omega)]
    · rfl

end Sys2Proof.Machine
end

section
/-! PROOFS. SET, and the requests of the referee: RECORD, RESERVE and RULE (R90, R100, R106, R152 to R156, section 12.4). -/

namespace Sys2Proof.Machine

/-! ### SET (R90, R106) -/

/-- A change that makes another record of a record held changes the history. -/
theorem changedHistory_ne {s : State} {r : Record} {f : Record → Record} (hr : r ∈ s.seq.history) (hf : f r ≠ r) :
    (s.seq.history.map fun x => if x.id = r.id then f x else x) ≠ s.seq.history := fun h => by
  have fixed := List.map_inj_left.mp (h.trans (List.map_id _).symm) r hr
  exact hf (by simpa using fixed)

/-- The notice of a change that makes another record of a record held. -/
theorem changeRecord_changed {s : State} {r : Record} {f : Record → Record} (hr : r ∈ s.seq.history) (hf : f r ≠ r) :
    changeRecord r.id f s = { s with
      seq := { s.seq with history := s.seq.history.map fun x => if x.id = r.id then f x else x },
      reservation := if s.reservation = some r.id then none else s.reservation } := by
  rw [changeRecord_eq, if_neg (changedHistory_ne hr hf)]

/-- A detector is ready for SET: it waits in OFF for its attempt, with its link in (R106). -/
theorem Detector.settle_eq (d : Detector) : d.settle =
    if d.state = .off ∧ d.attempt ≠ none ∧ d.linkOut = false then { d with state := .settling } else d := by
  unfold settle
  exact if_congr (by rw [Option.isSome_iff_ne_none]) rfl rfl

/-- A detector told of SET and, in the same event, of the settle end. -/
theorem Detector.settle_settleEnded {d : Detector} (h : d.state ≠ .settling) : d.settle.settleEnded =
    if d.state = .off ∧ d.attempt ≠ none ∧ d.linkOut = false then { d with state := .capture } else d := by
  rw [settle_eq, settleEnded]
  by_cases ready : d.state = .off ∧ d.attempt ≠ none ∧ d.linkOut = false
  · rw [if_pos ready, if_pos ready, if_pos rfl]
  · rw [if_neg ready, if_neg ready, if_neg h]

/-- What an accepted SET makes of the detectors (R106). -/
theorem setDetectors_eq {ls : List LaneIx} {s : State} (h : ∀ l ∈ ls, (s.detector l).state ≠ .settling) :
    (if s.line.settle = 0 then (s.mapDetectors ls Detector.settle).mapDetectors ls Detector.settleEnded
      else s.mapDetectors ls Detector.settle) =
    { s with detectors := Vector.ofFn fun l =>
        if l ∈ ls ∧ (s.detector l).state = .off ∧ (s.detector l).attempt ≠ none ∧ (s.detector l).linkOut = false then
          { s.detector l with state := if s.line.settle = 0 then .capture else .settling }
        else s.detector l } := by
  have elements : ∀ (t : State) (f : LaneIx → Detector), t = { s with detectors := t.detectors } → (∀ l, t.detector l = f l) →
      t = { s with detectors := Vector.ofFn f } := fun t f frame each => by
    rw [frame]
    refine congrArg (fun d => { s with detectors := d }) (Vector.ext fun i hi => ?_)
    rw [Vector.getElem_ofFn]
    exact each ⟨i, hi⟩
  split
  · next now =>
    refine elements _ _ rfl fun l => ?_
    rw [State.mapDetectors_detector, State.mapDetectors_detector]
    by_cases hl : l ∈ ls
    · rw [if_pos hl, if_pos hl, Detector.settle_settleEnded (h l hl)]
      exact if_congr (by simp [hl]) rfl rfl
    · rw [if_neg hl, if_neg hl, if_neg fun ready => hl ready.1]
  · next later =>
    refine elements _ _ rfl fun l => ?_
    rw [State.mapDetectors_detector]
    by_cases hl : l ∈ ls
    · rw [if_pos hl, Detector.settle_eq]
      exact if_congr (by simp [hl]) rfl rfl
    · rw [if_neg hl, if_neg fun ready => hl ready.1]

/-- SET on an open record in MARKS (R90). -/
theorem setAccepted_eq {s : State} {rec : Record} (ho : openRecord s = some rec) (marks : rec.state = .marks)
    (settling : ∀ l ∈ rec.lanes, (s.detector l).state ≠ .settling) : setAccepted rec s =
    { s with
      seq := { s.seq with history := s.seq.history.map fun x => if x.id = rec.id then { x with state := .set } else x,
                          setTime := some s.clock,
                          settleEnd := if s.line.settle = 0 then none else some (tadd s.clock s.line.settle),
                          earlyEdge := earlyEdgeNow s },
      reservation := if s.reservation = some rec.id then none else s.reservation,
      detectors := Vector.ofFn fun l =>
        if l ∈ rec.lanes ∧ (s.detector l).state = .off ∧ (s.detector l).attempt ≠ none ∧ (s.detector l).linkOut = false then
          { s.detector l with state := if s.line.settle = 0 then .capture else .settling }
        else s.detector l } := by
  have changed := changeRecord_changed (f := fun r => { r with state := .set }) (openRecord_mem ho) fun h => by
    have := congrArg Record.state h; rw [marks] at this; cases this
  have told := setDetectors_eq (s := { changeRecord rec.id (fun r => { r with state := .set }) s with
    seq := { (changeRecord rec.id (fun r => { r with state := .set }) s).seq with
      setTime := some s.clock, earlyEdge := earlyEdgeNow s,
      settleEnd := if s.line.settle = 0 then none else some (tadd s.clock s.line.settle) } }) (ls := rec.lanes) fun l hl => by
    show ((changeRecord rec.id _ s).detectors[l]).state ≠ .settling
    rw [changeRecord_detectors]; exact settling l hl
  simp only [changed] at told
  unfold setAccepted
  simp only [changed]
  exact told

/-- Settles O19: the open record changes its state, with its notice, and the detectors follow. -/
theorem setStartsSettle : Obligations.SetStartsSettle := by
  refine ⟨fun s r rec hs hp ho marks settling => ?_, fun s r hs hp hn => ?_⟩
  · have taken : serveKind .set [] s = accepted (setAccepted rec s) [] := by simp [serveKind, setRequest, ho, marks]
    rw [setAccepted_eq ho marks settling] at taken
    exact hs.accepted .set rfl hp rfl (by decide) taken rfl
  · refine hs.refused .set rfl hp rfl (by decide) ?_
    rcases lineState_cases s with ⟨ho, -⟩ | ⟨rec, ho, cases⟩
    · simp [serveKind, setRequest, ho]
    · have other : rec.state ≠ .marks := fun h => by
        rcases cases with ⟨-, hl⟩ | ⟨hr, -⟩ | ⟨hr, -⟩
        · exact hn hl
        · rw [h] at hr; cases hr
        · rw [h] at hr; cases hr
      simp [serveKind, setRequest, ho, other]

/-! ### The bytes of a record (section 12.4) -/

/-- A lane mask has the bit of each lane that it names, on top of those that it had. -/
theorem maskOf_getLsbD (ls : List LaneIx) (m : BitVec 16) {i : Nat} (hi : i < 16) :
    (ls.foldl (fun m l => m ||| (1#16 <<< laneNumber l)) m).getLsbD i = true ↔ m.getLsbD i = true ∨ ∃ l ∈ ls, l.val + 1 = i := by
  induction ls generalizing m with
  | nil => simp
  | cons l ls ih =>
    have bit : (1#16 <<< laneNumber l).getLsbD i = decide (l.val + 1 = i) := by
      rw [BitVec.getLsbD_shiftLeft, BitVec.getLsbD_one, laneNumber]
      grind
    rw [List.foldl_cons, ih, BitVec.getLsbD_or, bit]
    simp [or_assoc]

theorem timesPresence_eq (r : Record) : timesPresence r =
    0#4 ++ BitVec.ofBool r.recallShot.isSome ++ BitVec.ofBool r.recallPulse.isSome
      ++ BitVec.ofBool r.windowClose.isSome ++ BitVec.ofBool r.t0.isSome := by
  unfold timesPresence
  cases r.recallShot.isSome <;> cases r.recallPulse.isSome <;> cases r.windowClose.isSome <;> cases r.t0.isSome <;> rfl

theorem laneFlagsByte_eq (f : LaneFlags) : laneFlagsByte f =
    BitVec.ofBool f.sat ++ BitVec.ofBool f.rtSat ++ BitVec.ofBool f.unsteady ++ BitVec.ofBool f.link
      ++ BitVec.ofBool f.stale ++ BitVec.ofBool f.bounded ++ BitVec.ofBool f.shortBase ++ BitVec.ofBool f.early := by
  have bytes : ∀ a b c d e f g h : Bool, flagBit 0 a ||| flagBit 1 b ||| flagBit 2 c ||| flagBit 3 d ||| flagBit 4 e ||| flagBit 5 f
      ||| flagBit 6 g ||| flagBit 7 h = BitVec.ofBool h ++ BitVec.ofBool g ++ BitVec.ofBool f ++ BitVec.ofBool e ++ BitVec.ofBool d
      ++ BitVec.ofBool c ++ BitVec.ofBool b ++ BitVec.ofBool a := by decide
  exact bytes _ _ _ _ _ _ _ _

theorem resultPresence_eq (x : LaneResult) : resultPresence x =
    0#4 ++ (match x.decision with | none => 0#2 | some .upheld => 1#2 | some .annulled => 2#2)
      ++ BitVec.ofBool x.onset.isSome ++ BitVec.ofBool x.rt.isSome := by
  unfold resultPresence
  rcases x.decision with _ | _ | _ <;> cases x.onset.isSome <;> cases x.rt.isSome <;> rfl

theorem recStateCode_eq (x : RecState) :
    recStateCode x = match x with | .marks => 1#8 | .set => 2#8 | .running => 3#8 | .decided => 4#8 | .aborted => 5#8 := by
  cases x <;> rfl

theorem verdictCode_eq (x : Verdict) : verdictCode x =
    match x with | .pending => 0#8 | .fair => 1#8 | .falseStart => 2#8 | .noStart => 3#8 | .unsure => 4#8 | .void => 5#8 := by
  cases x <;> rfl

/-! ### RECORD, RESERVE and RULE (R100, R153, R155, R156) -/

theorem decisionOfByte_eq {b : Byte} {d : Decision} (h : (b = 0x01#8 ∧ d = .upheld) ∨ (b = 0x02#8 ∧ d = .annulled)) :
    decisionOfByte b = some d := by
  rcases h with ⟨rfl, rfl⟩ | ⟨rfl, rfl⟩ <;> rfl

theorem decisionOfByte_none {b : Byte} (h : b ≠ 0x01#8 ∧ b ≠ 0x02#8) : decisionOfByte b = none := by
  rw [decisionOfByte, if_neg h.1, if_neg h.2]

/-- RULE on an id of 0, no lane or no decision. -/
theorem ruleServe_badValue {h l lane dec : Byte} (s : State)
    (bad : (h ++ l).toNat = 0 ∨ lane.toNat = 0 ∨ 10 < lane.toNat ∨ (dec ≠ 0x01#8 ∧ dec ≠ 0x02#8)) :
    ruleServe [h, l, lane, dec] s = refuse s .badValue := by
  unfold ruleServe
  simp only
  rcases bad with h0 | noLane | noLane | noDecision
  · have zero : rd16 h l = 0 := h0
    simp only [zero, if_true]
    split <;> rfl
  · rw [laneOfByte_none (.inl noLane)]
  · rw [laneOfByte_none (.inr noLane)]
  · rw [decisionOfByte_none noDecision]
    cases laneOfByte lane <;> rfl

section Ruled

variable {h l lane dec : Byte} {n : LaneIx} {d : Decision} {s : State}

/-- RULE without its reservation, or on an id that no record has. -/
theorem ruleServe_stale (hn : lane.toNat = n.val + 1) (hd : (dec = 0x01#8 ∧ d = .upheld) ∨ (dec = 0x02#8 ∧ d = .annulled))
    (h0 : (h ++ l).toNat ≠ 0) (stale : s.reservation ≠ some (h ++ l).toNat ∨ recordOf s (h ++ l).toNat = none) :
    ruleServe [h, l, lane, dec] s = refuse { s with reservation := none } .stale := by
  have id : rd16 h l = (h ++ l).toNat := rfl
  unfold ruleServe
  simp only [laneOfByte_eq hn, decisionOfByte_eq hd, id, if_neg h0]
  rcases stale with other | gone
  · rw [if_pos other]
  · simp only [gone, ite_self]

/-- RULE on the record reserved: the lane set is tested, then the record's state. -/
theorem ruleServe_reserved (hn : lane.toNat = n.val + 1) (hd : (dec = 0x01#8 ∧ d = .upheld) ∨ (dec = 0x02#8 ∧ d = .annulled))
    (h0 : (h ++ l).toNat ≠ 0) (reserved : s.reservation = some (h ++ l).toNat) {rec : Record}
    (hr : recordOf s (h ++ l).toNat = some rec) : ruleServe [h, l, lane, dec] s =
      if n ∉ rec.lanes then refuse s .badValue
      else if rec.isOpen then refuse s .state else accepted (ruleAccepted rec.id n d s) [] := by
  have id : rd16 h l = (h ++ l).toNat := rfl
  unfold ruleServe
  simp only [laneOfByte_eq hn, decisionOfByte_eq hd, id, if_neg h0, if_neg (not_not.mpr reserved), hr]

end Ruled

/-- A decision written, and the reservation used up (R156). -/
theorem ruleAccepted_eq (id : Nat) (l : LaneIx) (d : Decision) (s : State) : ruleAccepted id l d s =
    { s with
      seq := { s.seq with history := s.seq.history.map fun x => if x.id = id then x.ruleOn l d else x }, reservation := none } := by
  simp only [ruleAccepted, changeRecord_eq]

/-- A lane result in its bytes, the presence and flag bytes bit by bit. -/
theorem resultBytes_eq (x : LaneResult) : resultBytes x =
    [BitVec.ofNat 8 (x.lane.val + 1), verdictCode x.verdict, laneFlagsByte x.flags, resultPresence x]
      ++ beInt16 (x.rt.getD 0) ++ be32 (x.onset.getD 0) ++ beInt16 x.b ++ beInt16 x.n ++ beInt16 x.theta := rfl

/-- A request that its owner refuses with a change of its own: the change stays, and the reply waits (R173). -/
theorem Serves.refusedWith {s t : State} {r : Request} {c : Instr} (h : Serves s r) (k : Kind) {payload : List Byte} {st : Status}
    (hc : requestOf c = some (k.code, r)) (hp : r.payload = payload) (hl : payload.length = k.length) (hk : k ≠ .restart)
    (e : serveKind k payload s = refuse t st) (host : t.host = s.host) :
    exec c s = .next { t with host := answered s r k.code st [] } := by
  subst hp
  obtain ⟨_, _, _, _, _, hp⟩ := id h.1
  rw [exec_request_served hc h.1 hl hk (.inl h.2), e]
  simp [refuse, answered, host, ← hp]

/-- Settles O21: RECORD and RESERVE by the record named, RULE by its tests in order, and the layout part by part. -/
theorem recordsReservedAndRuled : Obligations.RecordsReservedAndRuled := by
  refine ⟨fun s r h l hs hp => ⟨fun rec hr => ⟨?_, ?_⟩, fun hr => ⟨?_, ?_⟩⟩, fun s r h l lane dec hs hp bad => ?_,
    fun s r h l lane dec n d hs hp hn hd h0 => ⟨fun stale => ?_, fun reserved rec hr => ⟨fun hm => ?_, fun hm ho => ?_, fun hm ho => ?_⟩⟩,
    fun rec => ⟨maskOfLanes rec.lanes, fun i hi => ?_, ?_⟩⟩
  · have named : namedRecord s (rd16 h l) = some rec := hr
    have taken : serveKind .record [h, l] s = accepted s (recordBytes rec) := by simp only [serveKind, recordRequest, named]
    exact hs.accepted .record rfl hp rfl (by decide) taken rfl
  · have named : namedRecord s (rd16 h l) = some rec := hr
    have taken : serveKind .reserve [h, l] s = accepted { s with reservation := some rec.id } (recordBytes rec) := by
      simp only [serveKind, reserveServe, named]
    exact hs.accepted .reserve rfl hp rfl (by decide) taken rfl
  · have named : namedRecord s (rd16 h l) = none := hr
    exact hs.refused .record rfl hp rfl (by decide) (by simp only [serveKind, recordRequest, named])
  · have named : namedRecord s (rd16 h l) = none := hr
    exact hs.refused .reserve rfl hp rfl (by decide) (by simp only [serveKind, reserveServe, named])
  · exact hs.refused .rule rfl hp rfl (by decide) (ruleServe_badValue s bad)
  · exact hs.refusedWith .rule rfl hp rfl (by decide) (ruleServe_stale hn hd h0 stale) rfl
  · exact hs.refused .rule rfl hp rfl (by decide) ((ruleServe_reserved hn hd h0 reserved hr).trans (if_pos hm))
  · exact hs.refused .rule rfl hp rfl (by decide)
      ((ruleServe_reserved hn hd h0 reserved hr).trans ((if_neg (not_not.mpr hm)).trans (if_pos ho)))
  · have taken := (ruleServe_reserved hn hd h0 reserved hr).trans ((if_neg (not_not.mpr hm)).trans (if_neg (by simp [ho])))
    rw [ruleAccepted_eq] at taken
    exact hs.accepted .rule rfl hp rfl (by decide) taken rfl
  · exact (maskOf_getLsbD rec.lanes 0#16 hi).trans (by simp)
  · have numbers : (rec.falseList.flatMap fun l => be8 (laneNumber l)) = rec.falseList.map fun l => BitVec.ofNat 8 (l.val + 1) :=
      List.map_eq_flatMap.symm
    have results : rec.results.flatMap resultBytes = rec.results.flatMap fun x =>
        [BitVec.ofNat 8 (x.lane.val + 1), verdictCode x.verdict, laneFlagsByte x.flags, resultPresence x]
          ++ beInt16 (x.rt.getD 0) ++ be32 (x.onset.getD 0) ++ beInt16 x.b ++ beInt16 x.n ++ beInt16 x.theta :=
      List.flatMap_congr fun x _ => resultBytes_eq x
    simp only [recordBytes, timesPresence_eq, recStateCode_eq, numbers, results, verdictCode_eq, laneFlagsByte_eq, resultPresence_eq]
    rfl

end Sys2Proof.Machine
end

section
/-! PROOFS. The window close: what the watch-ended reports and the close of the attempt leave (R97, R129, R144). -/

namespace Sys2Proof.Machine

/-! ### The results of a record's lanes -/

/-- A record's lanes are changed alike by what acts alike on the results that they have. -/
theorem Record.onLane_congr {r : Record} {l : LaneIx} {f g : LaneResult → LaneResult} (h : ∀ x ∈ r.results, x.lane = l → f x = g x) :
    r.onLane l f = r.onLane l g := by
  unfold Record.onLane
  congr 1
  refine List.map_congr_left fun x hx => ?_
  split
  · next hl => exact h x hx hl
  · rfl

theorem Record.onLane_self {r : Record} {l : LaneIx} {g : LaneResult → LaneResult} (h : ∀ x ∈ r.results, x.lane = l → g x = x) :
    r.onLane l g = r := by
  rw [Record.onLane_congr (g := fun x => x) h]
  simp [Record.onLane]

/-- The result of a lane is the one that the record holds for it (R82). -/
theorem Record.result_of_mem {r : Record} (nodup : r.lanes.Nodup) {x : LaneResult} (hx : x ∈ r.results) : r.result x.lane = some x := by
  cases hr : r.result x.lane with
  | none => simpa using List.find?_eq_none.mp hr x hx
  | some y =>
    have same : y.lane = x.lane := by simpa using List.find?_some hr
    rw [List.inj_on_of_nodup_map nodup (List.mem_of_find?_eq_some hr) hx same]

theorem isPending_of_mem {r : Record} (nodup : r.lanes.Nodup) {x : LaneResult} (hx : x ∈ r.results) :
    isPending r x.lane = true ↔ x.verdict = .pending := by
  simp [isPending, Record.result_of_mem nodup hx]

/-! ### The watch-ended reports (R129, R144) -/

/-- The result of a lane after its watch-ended report. -/
def watchEnded (s : State) (l : LaneIx) (x : LaneResult) : LaneResult :=
  if x.verdict = .pending ∧ (s.detector l).state ≠ .done then { x with verdict := .noStart } else x

theorem watchEnded_lane (s : State) (l : LaneIx) (x : LaneResult) : (watchEnded s l x).lane = x.lane := by
  unfold watchEnded; split <;> rfl

theorem OnlyRecords.endWatch (l : LaneIx) (s : State) : OnlyRecords s (endWatch l s) := by
  unfold Machine.endWatch
  split
  · exact .refl s
  · exact .reportWatchEnded l s

theorem endWatch_newest {pre : List Record} {r : Record} {s : State} (newest : NewestOpen pre r s) (nodup : r.lanes.Nodup) (l : LaneIx) :
    NewestOpen pre (r.onLane l (watchEnded s l)) (endWatch l s) := by
  by_cases done : (s.detector l).state = .done
  · have kept : ∀ x ∈ r.results, x.lane = l → watchEnded s l x = x := fun _ _ _ => if_neg fun h => h.2 done
    rwa [endWatch, if_pos done, Record.onLane_self kept]
  · rw [endWatch, if_neg done, reportWatchEnded, newest.openRecord]
    by_cases pending : isPending r l = true
    · have ended : r.onLane l (watchEnded s l) = r.onLane l fun x => { x with verdict := .noStart } :=
        Record.onLane_congr fun x hx hl => if_pos ⟨(isPending_of_mem nodup hx).mp (hl ▸ pending), done⟩
      rw [ended]
      simp only [pending, if_true]
      exact newest.change (fun r => r.onLane l fun x => { x with verdict := .noStart }) rfl newest.isOpen
    · have kept : ∀ x ∈ r.results, x.lane = l → watchEnded s l x = x := fun x hx hl =>
        if_neg fun h => pending (hl ▸ (isPending_of_mem nodup hx).mpr h.1)
      rw [Record.onLane_self kept]
      simp only [pending]
      exact newest

theorem endWatches_newest {ls : List LaneIx} (hls : ls.Nodup) {pre : List Record} {r : Record} {s : State} (newest : NewestOpen pre r s)
    (nodup : r.lanes.Nodup) : NewestOpen pre (r.onLanes ls (watchEnded s)) (forLanes ls endWatch s) := by
  induction ls generalizing r s with
  | nil => rw [Record.onLanes_nil]; exact newest
  | cons l ls ih =>
    obtain ⟨hl, hls⟩ := List.nodup_cons.mp hls
    have rest := ih hls (endWatch_newest newest nodup l) (by rwa [Record.onLane_lanes r l (watchEnded_lane s l)])
    have same : watchEnded (endWatch l s) = watchEnded s := by
      funext k x
      rw [watchEnded, State.detector, (endWatch_frame l s).2.detectors]
      rfl
    rwa [same, Record.onLanes_cons r (watchEnded_lane s) hl] at rest

/-! ### The attempt closed -/

/-- The newest record stands last in the history, every record closed and those before it of another id. -/
structure NewestClosed (pre : List Record) (r : Record) (s : State) : Prop where
  history : s.seq.history = pre ++ [r]
  closed  : ∀ x ∈ pre ++ [r], x.isOpen = false
  ids     : ∀ x ∈ pre, x.id ≠ r.id

/-- The open record is closed by a change that keeps its id. -/
theorem NewestOpen.close {pre : List Record} {r : Record} {s : State} (h : NewestOpen pre r s) (f : Record → Record)
    (hid : (f r).id = r.id) (ho : (f r).isOpen = false) : NewestClosed pre (f r) (changeRecord r.id f s) := by
  refine ⟨h.changed f, fun x hx => ?_, fun x hx => hid ▸ h.ids x hx⟩
  rcases List.mem_append.mp hx with hx | hx
  · exact h.closed x hx
  · rwa [List.mem_singleton.mp hx]

theorem NewestClosed.of_history {pre : List Record} {r : Record} {s t : State} (h : NewestClosed pre r s)
    (e : t.seq.history = s.seq.history) : NewestClosed pre r t := ⟨e.trans h.history, h.closed, h.ids⟩

theorem NewestClosed.idle {pre : List Record} {r : Record} {s : State} (h : NewestClosed pre r s) : lineState s = .idle := by
  have none : openRecord s = none := List.find?_eq_none.mpr fun x hx => by
    rw [h.history] at hx; simp [h.closed x hx]
  simp [lineState, none]

theorem NewestClosed.recordOf {pre : List Record} {r : Record} {s : State} (h : NewestClosed pre r s) : recordOf s r.id = some r :=
  recordOf_last h.history h.ids

/-- The other records are those of the state in which the record was open. -/
theorem NewestClosed.recordOf_other {pre : List Record} {r r' : Record} {s t : State} (h : NewestClosed pre r' t) (k : NewestOpen pre r s)
    (hid : r'.id = r.id) {id : Nat} (other : id ≠ r.id) : Machine.recordOf t id = Machine.recordOf s id := by
  rw [recordOf_before h.history (hid ▸ other), recordOf_before k.history other]

/-- A reservation is kept or lost; none is taken. -/
def ReservationKept (s t : State) : Prop := t.reservation = s.reservation ∨ t.reservation = none

theorem ReservationKept.trans {a b c : State} (h : ReservationKept a b) (k : ReservationKept b c) : ReservationKept a c :=
  k.elim (fun e => h.imp e.trans e.trans) .inr

theorem ReservationKept.changeRecord (id : Nat) (f : Record → Record) (s : State) : ReservationKept s (changeRecord id f s) := by
  rw [ReservationKept, changeRecord_eq]
  simp only
  split
  · exact .inl rfl
  · split
    · exact .inr rfl
    · exact .inl rfl

theorem ReservationKept.endWatch (l : LaneIx) (s : State) : ReservationKept s (endWatch l s) := by
  unfold Machine.endWatch reportWatchEnded
  split
  · exact .inl rfl
  · split
    · exact .inl rfl
    · split
      · exact .changeRecord _ _ s
      · exact .inl rfl

/-- The close of a record is a change to it, whose notice ends a reservation on it (R86). -/
theorem closed_reservation {pre : List Record} {r : Record} {s u : State} (newest : NewestOpen pre r u) (kept : ReservationKept s u)
    {f : Record → Record} (hf : f r ≠ r) (reserved : s.reservation = some r.id) : (changeRecord r.id f u).reservation = none := by
  rw [changeRecord_changed (openRecord_mem newest.openRecord) hf]
  rcases kept with same | none
  · exact if_pos (same.trans reserved)
  · exact (if_neg (by rw [none]; simp)).trans none

/-- The close of an attempt once its lanes are judged: the detectors, the times `q`, the change `f` of the record, the rings, the event
(R96, R97). -/
def closeAttempt (kind : EventKind) (f : Record → Record) (q : Sequencer → Sequencer) (id : Nat) (lanes : List LaneIx) (u : State) : State :=
  let told := u.mapDetectors lanes Detector.close
  let changed := changeRecord id f { told with seq := q told.seq }
  let frozen := changed.mapRings lanes (Ring.freeze id)
  place kind none id (BitVec.ofNat 32 ((recordOf frozen id).elim 0 fun r => r.falseList.length)) frozen

/-- What the close of an attempt leaves, `u` being the state in which its lanes are judged and `r` the record closed. -/
structure AttemptClosed (kind : EventKind) (q : Sequencer → Sequencer) (lanes : List LaneIx) (pre : List Record) (r : Record)
    (u t : State) : Prop where
  writes    : WritesAttempt u t
  newest    : NewestClosed pre r t
  times     : { t.seq with history := u.seq.history } = q u.seq
  detectors : ∀ l, t.detector l = if l ∈ lanes then (u.detector l).close else u.detector l
  rings     : ∀ l, t.ring l = if l ∈ lanes then { u.ring l with frozenBy := some r.id } else u.ring l
  events    : t.events = arrive u.line.attnMode
    { kind := kind, time := u.clock, lane := none, attempt := r.id, value := BitVec.ofNat 32 r.falseList.length } u.events

theorem closeAttempt_closed {pre : List Record} {r : Record} {u : State} (opened : NewestOpen pre r u) {f : Record → Record}
    (hid : (f r).id = r.id) (ho : (f r).isOpen = false) {q : Sequencer → Sequencer} (hq : ∀ x, (q x).history = x.history)
    (kind : EventKind) (lanes : List LaneIx) :
    AttemptClosed kind q lanes pre (f r) u (closeAttempt kind f q r.id lanes u) := by
  set told := u.mapDetectors lanes Detector.close with htold
  have before : NewestOpen pre r { told with seq := q told.seq } := opened.of_history (hq u.seq)
  have closed := before.close f hid ho
  set changed := changeRecord r.id f { told with seq := q told.seq } with hchanged
  set frozen := changed.mapRings lanes (Ring.freeze r.id) with hfrozen
  have newest : NewestClosed pre (f r) frozen := closed.of_history rfl
  have found : recordOf frozen r.id = some (f r) := hid ▸ newest.recordOf
  have eq : closeAttempt kind f q r.id lanes u = place kind none r.id (BitVec.ofNat 32 (f r).falseList.length) frozen := by
    rw [closeAttempt]
    simp only [← htold, ← hchanged, ← hfrozen, found, Option.elim_some]
  have writes : WritesAttempt u changed := WritesAttempt.trans (b := { told with seq := q told.seq }) rfl (.changeRecord _ _ _)
  rw [eq]
  constructor
  case writes => exact writes.trans rfl
  case newest => exact newest.of_history rfl
  case times =>
    have seq : { changed.seq with history := u.seq.history } = { q u.seq with history := u.seq.history } := by
      rw [hchanged, changeRecord_eq]; rfl
    have same : { q u.seq with history := u.seq.history } = q u.seq := by rw [← hq u.seq]
    exact seq.trans same
  case detectors =>
    intro l
    rw [← State.mapDetectors_detector, ← htold]
    show changed.detectors[l] = told.detectors[l]
    rw [hchanged, changeRecord_detectors]
  case rings =>
    intro l
    have same : changed.ring l = u.ring l := by rw [State.ring, hchanged, changeRecord_rings]; rfl
    rw [hid, ← same]
    exact State.mapRings_ring changed lanes (Ring.freeze r.id) l
  case events =>
    have events : changed.events = u.events := by rw [hchanged, changeRecord_events]; rfl
    show arrive changed.line.attnMode { kind := kind, time := changed.clock, .. } changed.events = _
    rw [events, writes.clock, hid, congrArg State.line writes]

theorem closeAttempt_cleared {pre : List Record} {r : Record} {s u : State} (opened : NewestOpen pre r u) (kept : ReservationKept s u)
    {f : Record → Record} (hf : f r ≠ r) {q : Sequencer → Sequencer} (hq : ∀ x, (q x).history = x.history) (kind : EventKind)
    (lanes : List LaneIx) (reserved : s.reservation = some r.id) : (closeAttempt kind f q r.id lanes u).reservation = none := by
  set told := u.mapDetectors lanes Detector.close
  have before : NewestOpen pre r { told with seq := q told.seq } := opened.of_history (hq u.seq)
  exact closed_reservation before (kept.trans (.inl rfl)) hf reserved

/-! ### The window close (R97) -/

/-- The record decided. -/
def Record.decidedAt (now : Time) (r : Record) : Record := { r with windowClose := some now, state := .decided }

/-- The times of the sequencer at the window close of a shot at `t0` (R81). -/
def Sequencer.windowClosed (t0 : Time) (q : Sequencer) : Sequencer :=
  { q with setTime := none, windowEnd := none, recallShotEnd := some (tadd t0 30101) }

theorem windowClose_eq {r : Record} {t0 : Time} (ht : r.t0 = some t0) (s : State) : windowClose r s =
    closeAttempt .decided (Record.decidedAt s.clock) (Sequencer.windowClosed t0) r.id r.lanes (forLanes r.lanes endWatch s) := by
  simp only [windowClose, closeAttempt, ht, Option.getD_some, changeRecord_eq]
  rfl

/-- Settles O34: the watch-ended reports judge the lanes still PENDING, and the close of the record, the rings and the detectors follows. -/
theorem windowCloses : Obligations.WindowCloses := by
  intro s rec t0 hr hw ho running ht hi
  have newest := hi.newestOpen ho
  have nodup : rec.lanes.Nodup := (hi.lanes rec (openRecord_mem ho)).imp ne_of_lt
  have ended := endWatches_newest nodup newest nodup
  have only : OnlyRecords s (forLanes rec.lanes endWatch s) :=
    forLanes_induct (P := OnlyRecords s) rec.lanes (.refl s) fun l _ t h => h.trans (.endWatch l t)
  have reservation : ReservationKept s (forLanes rec.lanes endWatch s) :=
    forLanes_induct (P := ReservationKept s) rec.lanes (.inl rfl) fun l _ t h => h.trans (.endWatch l t)
  have detector : ∀ l, (forLanes rec.lanes endWatch s).detector l = s.detector l := fun l => by
    rw [State.detector, (endWatches_frame rec.lanes s).2.detectors]; rfl
  have step : exec .windowCloseExpiry s = .next (closeAttempt .decided (Record.decidedAt s.clock) (Sequencer.windowClosed t0) rec.id rec.lanes
      (forLanes rec.lanes endWatch s)) := by
    refine (live_running windowCloseStep hr).trans ?_
    rw [windowCloseStep, if_pos hw, ← windowClose_eq ht]
    simp only [ho, running, if_true]
  have decided : (rec.onLanes rec.lanes (watchEnded s)).decidedAt s.clock ≠ rec.onLanes rec.lanes (watchEnded s) := fun h => by
    have state : RecState.decided = rec.state := congrArg Record.state h
    rw [running] at state; cases state
  have closed := closeAttempt_closed ended (f := Record.decidedAt s.clock) rfl rfl (q := Sequencer.windowClosed t0) (fun _ => rfl)
    .decided rec.lanes
  have cleared := closeAttempt_cleared ended reservation decided (q := Sequencer.windowClosed t0) (fun _ => rfl) .decided rec.lanes
  rw [show (rec.onLanes rec.lanes (watchEnded s)).id = rec.id from rfl] at closed cleared
  generalize closeAttempt .decided (Record.decidedAt s.clock) (Sequencer.windowClosed t0) rec.id rec.lanes
    (forLanes rec.lanes endWatch s) = t at step closed cleared
  generalize forLanes rec.lanes endWatch s = u at only detector closed
  refine ⟨t, _, step, closed.newest.recordOf, rfl, rfl, rfl, rfl, closed.newest.idle, ?_, fun l => ?_, fun l hl => ?_, fun l hl => ?_,
    fun id hid => closed.newest.recordOf_other newest rfl hid, ?_⟩
  · refine List.map_congr_left fun x hx => ?_
    have held : x.lane ∈ rec.lanes := List.mem_map_of_mem hx
    rw [if_pos held, watchEnded]
  · rw [closed.rings, State.ring, only.rings]; rfl
  · rw [closed.detectors, if_pos hl]; exact ⟨rfl, rfl, rfl⟩
  · rw [closed.detectors, if_neg hl, detector]
  · have times : ∀ {α : Type} (f : Sequencer → α), f { t.seq with history := u.seq.history } = f (u.seq.windowClosed t0) :=
      fun f => congrArg f closed.times
    rw [closed.events, only.line, only.clock, only.events]
    refine ⟨times (·.windowEnd), times (·.setTime), times (·.recallShotEnd), cleared, rfl, ?_⟩
    have writes := closed.writes
    rw [writes]
    exact ⟨only.ports, only.driver, only.zeros, only.assemblers, only.pistol, only.host, only.store⟩

end Sys2Proof.Machine
end

section
/-! PROOFS. The reports that the detectors of several lanes give one after another: at STAND and at the start of the attempt (R134 to R147). -/

namespace Sys2Proof.Machine

theorem Record.onLanes_singleton (g : LaneIx → LaneResult → LaneResult) (r : Record) (l : LaneIx) :
    r.onLanes [l] g = r.onLane l (g l) := by
  unfold Record.onLanes Record.onLane
  congr 1
  refine List.map_congr_left fun x _ => ?_
  by_cases hx : x.lane = l <;> simp [hx]

/-! ### The insertion of a false start (R136) -/

theorem insertFalse_split (results : List LaneResult) (a : LaneIx) (ta : Time) (ls : List LaneIx) :
    ∃ before after, ls = before ++ after ∧ insertFalse results a ta ls = before ++ a :: after := by
  induction ls with
  | nil => exact ⟨[], [], rfl, rfl⟩
  | cons b rest ih =>
    obtain ⟨before, after, eq, inserted⟩ := ih
    have later : ∃ before after, b :: rest = before ++ after ∧ b :: insertFalse results a ta rest = before ++ a :: after :=
      ⟨b :: before, after, by rw [eq]; rfl, by rw [inserted]; rfl⟩
    rw [insertFalse]
    split
    · split
      · exact ⟨[], b :: rest, rfl, rfl⟩
      · exact later
    · exact later

theorem mem_insertFalse {results : List LaneResult} {a k : LaneIx} {ta : Time} {ls : List LaneIx} :
    k ∈ insertFalse results a ta ls ↔ k ∈ ls ∨ k = a := by
  obtain ⟨before, after, rfl, e⟩ := insertFalse_split results a ta ls
  rw [e]
  simp only [List.mem_append, List.mem_cons]
  tauto

theorem insertFalse_length (results : List LaneResult) (a : LaneIx) (ta : Time) (ls : List LaneIx) :
    (insertFalse results a ta ls).length = ls.length + 1 := by
  obtain ⟨before, after, rfl, e⟩ := insertFalse_split results a ta ls
  rw [e]; simp; omega

/-- The lanes of the list keep their order. -/
theorem insertFalse_filter {results : List LaneResult} {a : LaneIx} {ta : Time} {ls : List LaneIx} {p : LaneIx → Bool} (h : p a = false) :
    (insertFalse results a ta ls).filter p = ls.filter p := by
  obtain ⟨before, after, rfl, e⟩ := insertFalse_split results a ta ls
  rw [e]; simp [h]

/-! ### Events placed one after another (R181) -/

/-- Events arrive one after another. -/
def arriveAll (mode : AttnMode) (es : List Event) (q : EventQueue) : EventQueue := es.foldl (fun q e => arrive mode e q) q

theorem arriveAll_append (mode : AttnMode) (es fs : List Event) (q : EventQueue) :
    arriveAll mode (es ++ fs) q = arriveAll mode fs (arriveAll mode es q) := List.foldl_append ..

theorem arriveAll_cons (mode : AttnMode) (e : Event) (es : List Event) (q : EventQueue) :
    arriveAll mode (e :: es) q = arriveAll mode es (arrive mode e q) := rfl

/-- What arrives at a full queue is lost. -/
theorem arriveAll_full {mode : AttnMode} (es : List Event) {q : EventQueue} (full : 32 ≤ q.list.length) :
    (arriveAll mode es q).list = q.list := by
  induction es generalizing q with
  | nil => rfl
  | cons e es ih =>
    have lost : (arrive mode e q).list = q.list := by rw [arrive_full mode e full]
    rw [arriveAll_cons, ih (lost ▸ full), lost]

/-- The events added are the first of those that arrive. -/
theorem arriveAll_added (mode : AttnMode) (es : List Event) (q : EventQueue) :
    ∃ added, added <+: es ∧ (arriveAll mode es q).list = q.list ++ added := by
  induction es generalizing q with
  | nil => exact ⟨[], List.nil_prefix, by simp [arriveAll]⟩
  | cons e es ih =>
    rcases Nat.lt_or_ge q.list.length 32 with room | full
    · obtain ⟨added, pre, eq⟩ := ih (arrive mode e q)
      refine ⟨e :: added, List.cons_prefix_cons.mpr ⟨rfl, pre⟩, eq.trans ?_⟩
      rw [arrive_room mode e room]; simp
    · exact ⟨[], List.nil_prefix, by rw [arriveAll_full _ full, List.append_nil]⟩

/-- With room left after them all, every event that arrived is held. -/
theorem mem_arriveAll {mode : AttnMode} {es : List Event} {q : EventQueue} (room : (arriveAll mode es q).list.length < 32) {e : Event}
    (he : e ∈ es) : e ∈ (arriveAll mode es q).list := by
  obtain ⟨before, after, rfl⟩ := List.append_of_mem he
  have fits : (arriveAll mode before q).list.length < 32 := by
    obtain ⟨added, -, eq⟩ := arriveAll_added mode (e :: after) (arriveAll mode before q)
    rw [arriveAll_append, eq, List.length_append] at room
    omega
  obtain ⟨added, -, eq⟩ := arriveAll_added mode after (arrive mode e (arriveAll mode before q))
  rw [arriveAll_append]
  show e ∈ (arriveAll mode after (arrive mode e (arriveAll mode before q))).list
  rw [eq, arrive_room mode e fits]
  simp

/-! ### What a lane is told, and what its report says -/

/-- What one event makes of a lane: its result, its detector, and, when it makes a false start of it, the reaction time reported. -/
structure Told where
  result     : LaneResult → LaneResult
  detector   : Detector
  falseStart : Option (Option Int)

section Fallen

variable (told : LaneIx → Told) (ls : List LaneIx)

/-- The lanes that become FALSE. -/
def fallen : List LaneIx := ls.filter fun l => (told l).falseStart.isSome

/-- The FALSE_START event of a lane, with this position. -/
def falseStartEvent (now : Time) (id : Nat) (position : LaneIx → Nat) (l : LaneIx) : Event :=
  { kind := .falseStart, time := now, lane := some l, attempt := id,
    value := falseStartValue ((told l).falseStart.getD none) (position l) }

end Fallen

/-- The RECALL_SENT event of an automatic recall. -/
def recallEvent (now : Time) (id : Nat) : Event := { kind := .recallSent, time := now, lane := none, attempt := id, value := 1#32 }

/-- The first false start of a record that is due its recall is followed by the recall. -/
def withRecall (due : Bool) (e : Event) : List Event → List Event
  | [] => []
  | x :: rest => if due then x :: e :: rest else x :: rest

/-- A false start recalls the field: the record is RUNNING without a recall pulse time, and automatic recall is on (R147). -/
def recallDue (r : Record) (s : State) : Bool := decide (r.state = .running ∧ s.line.autoRecall = true ∧ r.recallPulse = none)

/-- Lamps lit, and no link changed. -/
def LampsKept (s t : State) : Prop := ∀ p, (t.port p).link = (s.port p).link ∧ ((s.port p).lamp = true → (t.port p).lamp = true)

/-- The lamp of a lane is lit when its port is STREAMING and its lamp enabled (R146). -/
def LampLit (s t : State) (l : LaneIx) : Prop :=
  ∀ p, (s.lane l).port = some p → (s.port p).link = .streaming → (s.lane l).lampEnable = true → (t.port p).lamp = true

/-- What the reports of these lanes, each told as given, make of the open record `r` and of the state. -/
structure Reports (told : LaneIx → Told) (ls : List LaneIx) (pre : List Record) (r : Record) (s : State) (r' : Record) (t : State) :
    Prop where
  newest      : NewestOpen pre r' t
  writes      : WritesReports s t
  seqRest     : { t.seq with history := s.seq.history } = s.seq
  reservation : ReservationKept s t
  detectors   : ∀ l, t.detector l = if l ∈ ls then (told l).detector else s.detector l
  record      : r' = { r.onLanes ls fun l => (told l).result with falseList := r'.falseList, recallPulse := r'.recallPulse }
  recalled    : r'.recallPulse = if fallen told ls ≠ [] ∧ recallDue r s = true then some s.clock else r.recallPulse
  driver      : t.driver = if fallen told ls ≠ [] ∧ recallDue r s = true then .pulsing (tadd s.clock s.line.pulseLength) else s.driver
  members     : ∀ k, k ∈ r'.falseList ↔ k ∈ r.falseList ∨ k ∈ fallen told ls
  length      : r'.falseList.length = r.falseList.length + (fallen told ls).length
  order       : ∀ p : LaneIx → Bool, (∀ k ∈ fallen told ls, p k = false) → r'.falseList.filter p = r.falseList.filter p
  events      : ∃ position, t.events = arriveAll s.line.attnMode
      (withRecall (recallDue r s) (recallEvent s.clock r.id) ((fallen told ls).map (falseStartEvent told s.clock r.id position))) s.events
    ∧ (ls.Pairwise (· < ·) → (∀ k ∈ fallen told ls, k ∉ r.falseList) → ∀ l ∈ fallen told ls,
        position l = positionIn l (r'.falseList.filter fun k => decide (k ∈ r.falseList) || decide (k ≤ l)))
  still       : r.state ≠ .running → t.ports = s.ports
  lamps       : LampsKept s t
  lit         : r.state = .running → ∀ l ∈ fallen told ls, LampLit s t l

section FallenLanes

variable {told : LaneIx → Told} {l : LaneIx} {ls : List LaneIx}

theorem fallen_cons (told : LaneIx → Told) (l : LaneIx) (ls : List LaneIx) : fallen told (l :: ls) = fallen told [l] ++ fallen told ls :=
  List.filter_append [l] ls

theorem mem_fallen_singleton {k : LaneIx} (h : k ∈ fallen told [l]) : k = l := List.mem_singleton.mp (List.mem_of_mem_filter h)

theorem fallen_singleton_some {rt : Option Int} (h : (told l).falseStart = some rt) : fallen told [l] = [l] := by simp [fallen, h]

theorem fallen_singleton_none (h : (told l).falseStart = none) : fallen told [l] = [] := by simp [fallen, h]

theorem fallen_subset (told : LaneIx → Told) (ls : List LaneIx) : fallen told ls ⊆ ls := List.filter_subset_self _

end FallenLanes

/-- The recall follows the first false start of all. -/
theorem withRecall_append (due : Bool) (e : Event) (xs ys : List Event) :
    withRecall due e (xs ++ ys) = withRecall due e xs ++ withRecall (due && xs.isEmpty) e ys := by
  cases xs with
  | nil => simp [withRecall]
  | cons x xs => cases due <;> cases ys <;> simp [withRecall]

theorem LampsKept.trans {a b c : State} (h : LampsKept a b) (k : LampsKept b c) : LampsKept a c := fun p =>
  ⟨(k p).1.trans (h p).1, fun lit => (k p).2 ((h p).2 lit)⟩

theorem LampsKept.of_ports {s t : State} (h : t.ports = s.ports) : LampsKept s t := fun p => by
  rw [State.port, h]; exact ⟨rfl, id⟩

/-! ### One lane after another -/

namespace Reports

variable {told : LaneIx → Told} {pre : List Record} {l : LaneIx} {ls : List LaneIx} {r r1 r' : Record} {s s1 t : State}

theorem nil (newest : NewestOpen pre r s) : Reports told [] pre r s r s where
  newest := newest
  writes := .refl s
  seqRest := rfl
  reservation := .inl rfl
  detectors := fun _ => rfl
  record := by rw [Record.onLanes_nil]
  recalled := rfl
  driver := rfl
  members := fun k => by simp [fallen]
  length := rfl
  order := fun _ _ => rfl
  events := ⟨fun _ => 0, rfl, fun _ _ l hl => absurd hl (by simp [fallen])⟩
  still := fun _ => rfl
  lamps := .of_ports rfl
  lit := fun _ l hl => absurd hl (by simp [fallen])

/-- A recall that was due is due still unless a lane has become FALSE. -/
theorem due (h : Reports told ls pre r s r1 s1) : recallDue r1 s1 = (recallDue r s && (fallen told ls).isEmpty) := by
  have state : r1.state = r.state := by rw [h.record]; rfl
  have line : s1.line = s.line := by rw [h.writes]
  have recalled := h.recalled
  unfold recallDue at recalled ⊢
  rw [state, line, recalled]
  cases fallen told ls <;> simp
  split <;> simp_all

/-- The report of one lane, then those of the others. -/
theorem cons (hl : l ∉ ls) (lane : ∀ k x, ((told k).result x).lane = x.lane) (first : Reports told [l] pre r s r1 s1)
    (rest : Reports told ls pre r1 s1 r' t) : Reports told (l :: ls) pre r s r' t := by
  have id : r1.id = r.id := by rw [first.record]; rfl
  have state : r1.state = r.state := by rw [first.record]; rfl
  have line : s1.line = s.line := by rw [first.writes]
  have clock : s1.clock = s.clock := by rw [first.writes]
  have member : ∀ k, k ∈ r1.falseList ↔ k ∈ r.falseList ∨ k ∈ fallen told [l] := first.members
  have other : ∀ k ∈ fallen told ls, k ≠ l := fun k hk e => hl (e ▸ fallen_subset told ls hk)
  constructor
  case newest => exact rest.newest
  case writes => exact first.writes.trans rest.writes
  case seqRest => rw [← first.seqRest]; rw [← rest.seqRest]
  case reservation => exact first.reservation.trans rest.reservation
  case detectors =>
    intro k
    rw [rest.detectors, first.detectors]
    by_cases hk : k = l
    · subst hk; simp [hl]
    · simp [hk]
  case record =>
    have one := Record.onLanes_singleton (fun k => (told k).result) r l
    refine rest.record.trans ?_
    rw [← Record.onLanes_cons r lane hl, ← one]
    exact congrArg (fun x : Record =>
      { x.onLanes ls fun k => (told k).result with falseList := r'.falseList, recallPulse := r'.recallPulse }) first.record
  case recalled =>
    rw [rest.recalled, first.recalled, first.due, fallen_cons told l ls, clock]
    cases fallen told [l] <;> cases recallDue r s <;> simp
  case driver =>
    rw [rest.driver, first.driver, first.due, fallen_cons told l ls, clock, line]
    cases fallen told [l] <;> cases recallDue r s <;> simp
  case members => intro k; rw [rest.members, member, fallen_cons told l ls, List.mem_append, or_assoc]
  case length => rw [rest.length, first.length, fallen_cons told l ls, List.length_append]; omega
  case order =>
    intro p hp
    rw [fallen_cons told l ls] at hp
    exact (rest.order p fun k hk => hp k (List.mem_append_right _ hk)).trans (first.order p fun k hk => hp k (List.mem_append_left _ hk))
  case events =>
    obtain ⟨position, arrived, place⟩ := first.events
    obtain ⟨position', arrived', place'⟩ := rest.events
    refine ⟨fun k => if k = l then position k else position' k, ?_, fun ascending fresh k hk => ?_⟩
    · have here : (fallen told [l]).map (falseStartEvent told s.clock r.id position) =
          (fallen told [l]).map (falseStartEvent told s.clock r.id fun k => if k = l then position k else position' k) :=
        List.map_congr_left fun k hk => by rw [falseStartEvent, falseStartEvent, if_pos (mem_fallen_singleton hk)]
      have there : (fallen told ls).map (falseStartEvent told s.clock r.id position') =
          (fallen told ls).map (falseStartEvent told s.clock r.id fun k => if k = l then position k else position' k) :=
        List.map_congr_left fun k hk => by rw [falseStartEvent, falseStartEvent, if_neg (other k hk)]
      rw [arrived', arrived, first.due, clock, line, id, here, there, ← arriveAll_append, fallen_cons told l ls, List.map_append,
        withRecall_append, List.isEmpty_map]
    · obtain ⟨above, ascending⟩ := List.pairwise_cons.mp ascending
      rw [fallen_cons told l ls] at fresh hk
      rcases List.mem_append.mp hk with hk | hk
      · obtain rfl := mem_fallen_singleton hk
        have later : ∀ m ∈ fallen told ls, (decide (m ∈ r.falseList) || decide (m ≤ k)) = false := fun m hm => by
          have new := fresh m (List.mem_append_right _ hm)
          have greater := above m (fallen_subset told ls hm)
          simp [new, greater]
        rw [rest.order _ later]
        refine (if_pos rfl).trans (place (List.pairwise_singleton ..) (fun m hm => fresh m (List.mem_append_left _ hm)) k hk)
      · have below : l < k := above k (fallen_subset told ls hk)
        have same : (fun m => decide (m ∈ r1.falseList) || decide (m ≤ k)) = fun m => decide (m ∈ r.falseList) || decide (m ≤ k) := by
          funext m
          by_cases hm : m ∈ fallen told [l]
          · obtain rfl := mem_fallen_singleton hm
            simp [below.le]
          · simp [member, hm]
        rw [← same]
        refine (if_neg (other k hk)).trans (place' ascending (fun m hm held => ?_) k hk)
        rcases (member m).mp held with held | held
        · exact fresh m (List.mem_append_right _ hm) held
        · exact other m hm (mem_fallen_singleton held)
  case still => intro h; exact (rest.still (state ▸ h)).trans (first.still h)
  case lamps => exact first.lamps.trans rest.lamps
  case lit =>
    intro running k hk p hp hs he
    have lane : s1.lane k = s.lane k := by rw [first.writes]; rfl
    rw [fallen_cons told l ls] at hk
    rcases List.mem_append.mp hk with hk | hk
    · exact (rest.lamps p).2 (first.lit running k hk p hp hs he)
    · exact rest.lit (state ▸ running) k hk p (lane ▸ hp) ((first.lamps p).1.trans hs) (lane ▸ he)

end Reports

/-! ### Lanes that a report leaves alone -/

theorem Record.onLanes_result_map {ls : List LaneIx} {g : LaneIx → LaneResult → LaneResult} (hg : ∀ k x, (g k x).lane = x.lane) (r : Record)
    (l : LaneIx) : (r.onLanes ls g).result l = (r.result l).map fun x => if x.lane ∈ ls then g x.lane x else x := by
  rw [Record.result, Record.onLanes, List.find?_map, Record.result]
  congr 2
  funext x
  rw [Function.comp_apply]
  split
  · rw [hg]
  · rfl

/-- The result of a lane that is not among those changed. -/
theorem Record.onLanes_result_other {ls : List LaneIx} {l : LaneIx} {g : LaneIx → LaneResult → LaneResult}
    (hg : ∀ k x, (g k x).lane = x.lane) (r : Record) (hl : l ∉ ls) : (r.onLanes ls g).result l = r.result l := by
  rw [Record.onLanes_result_map hg]
  cases h : r.result l with
  | none => rfl
  | some x =>
    have here : x.lane = l := by simpa using List.find?_some h
    rw [Option.map_some, if_neg (here ▸ hl)]

/-- The result of a lane that is among them. -/
theorem Record.onLanes_result {ls : List LaneIx} {l : LaneIx} {x : LaneResult} {g : LaneIx → LaneResult → LaneResult} {r : Record}
    (hg : ∀ k x, (g k x).lane = x.lane) (hl : l ∈ ls) (h : r.result l = some x) : (r.onLanes ls g).result l = some (g l x) := by
  have here : x.lane = l := by simpa using List.find?_some h
  rw [Record.onLanes_result_map hg, h, Option.map_some, here, if_pos hl]

/-- What the reports of other lanes leave of a lane. -/
structure Untouched (l : LaneIx) (r : Record) (s : State) (r1 : Record) (s1 : State) : Prop where
  writes   : WritesReports s s1
  detector : s1.detector l = s.detector l
  result   : r1.result l = r.result l
  state    : r1.state = r.state

theorem Untouched.trans {l : LaneIx} {r r1 r2 : Record} {s s1 s2 : State} (h : Untouched l r s r1 s1) (k : Untouched l r1 s1 r2 s2) :
    Untouched l r s r2 s2 :=
  ⟨h.writes.trans k.writes, k.detector.trans h.detector, k.result.trans h.result, k.state.trans h.state⟩

namespace Reports

variable {told : LaneIx → Told} {pre : List Record} {l : LaneIx} {ls : List LaneIx} {r r1 r' : Record} {s s1 t : State}

theorem untouched (h : Reports told ls pre r s r1 s1) (lane : ∀ k x, ((told k).result x).lane = x.lane) (hl : l ∉ ls) :
    Untouched l r s r1 s1 := by
  refine ⟨h.writes, by rw [h.detectors, if_neg hl], ?_, by rw [h.record]; rfl⟩
  rw [h.record]
  exact Record.onLanes_result_other lane r hl

/-- Reports to one lane after another, each as told by the record and the state before them all. -/
theorem forLanes {f : LaneIx → State → State} (lane : ∀ k x, ((told k).result x).lane = x.lane)
    (step : ∀ l r1 s1, NewestOpen pre r1 s1 → Untouched l r s r1 s1 → ∃ r2, Reports told [l] pre r1 s1 r2 (f l s1)) (nodup : ls.Nodup)
    (newest : NewestOpen pre r1 s1) (others : ∀ l ∈ ls, Untouched l r s r1 s1) :
    ∃ r', Reports told ls pre r1 s1 r' (Machine.forLanes ls f s1) := by
  induction ls generalizing r1 s1 with
  | nil => exact ⟨r1, nil newest⟩
  | cons l ls ih =>
    obtain ⟨hl, nodup⟩ := List.nodup_cons.mp nodup
    obtain ⟨r2, first⟩ := step l r1 s1 newest (others l (List.mem_cons_self ..))
    have apart : ∀ k ∈ ls, k ∉ [l] := fun k hk e => hl (List.mem_singleton.mp e ▸ hk)
    obtain ⟨r', rest⟩ := ih nodup first.newest fun k hk =>
      (others k (List.mem_cons_of_mem _ hk)).trans (first.untouched lane (apart k hk))
    exact ⟨r', first.cons hl lane rest⟩

/-- A report that makes no false start. -/
theorem quiet (newest : NewestOpen pre r s) {g : LaneResult → LaneResult} {d : Detector} (h : told l = ⟨g, d, none⟩) :
    Reports told [l] pre r s (r.onLane l g) (changeRecord r.id (fun r => r.onLane l g) (s.setDetector l d)) := by
  have before : NewestOpen pre r (s.setDetector l d) := newest.of_history rfl
  have none : fallen told [l] = [] := fallen_singleton_none (by rw [h])
  have frame := VerdictFrame.change r.id (fun r => r.onLane l g) (s.setDetector l d)
  constructor
  case newest => exact before.change (fun r => r.onLane l g) rfl newest.isOpen
  case writes => exact (WritesReports.setDetector s l d).trans (.changeRecord _ _ _)
  case seqRest => exact frame.seqRest
  case reservation => exact .changeRecord _ _ (s.setDetector l d)
  case detectors =>
    intro k
    rw [State.detector, frame.detectors]
    refine (State.setDetector_detector s l k d).trans ?_
    by_cases hk : l = k
    · subst hk; simp [h]
    · simp [hk, Ne.symm hk]
  case record => rw [Record.onLanes_singleton, h]
  case recalled => rw [none]; rfl
  case driver => rw [none]; exact changeRecord_driver _ _ _
  case members => intro k; rw [none]; simp [Record.onLane]
  case length => rw [none]; rfl
  case order => exact fun _ _ => rfl
  case events => exact ⟨fun _ => 0, by rw [none]; exact changeRecord_events _ _ _, fun _ _ k hk => absurd hk (by simp [none])⟩
  case still => exact fun _ => changeRecord_ports _ _ _
  case lamps => exact .of_ports (changeRecord_ports _ _ _)
  case lit => exact fun _ k hk => absurd hk (by simp [none])

end Reports

/-! ### A false start and what it does (R136, R145 to R147) -/

/-- The lamp of a false start, while the record is RUNNING (R146). -/
def lampAct (l : LaneIx) (r : Record) (s : State) : State := if r.state = .running then lampOn l s else s

/-- The recall of a false start, when one is due (R147). -/
def recallAct (r : Record) (s : State) : State :=
  if recallDue r s = true then
    pulseRequest false r.id (changeRecord r.id (fun r => { r with recallPulse := some s.clock }) s)
  else s

theorem lampAct_seq (l : LaneIx) (r : Record) (s : State) :
    (lampAct l r s).seq = s.seq ∧ (lampAct l r s).events = s.events ∧ (lampAct l r s).driver = s.driver := by
  unfold lampAct
  split
  · exact lampOn_seq l s
  · exact ⟨rfl, rfl, rfl⟩

theorem lampAct_frame (l : LaneIx) (r : Record) (s : State) : VerdictFrame s (lampAct l r s) := by
  unfold lampAct
  split
  · exact .lampOn l s
  · constructor <;> rfl

theorem lampOn_reservation (l : LaneIx) (s : State) : (lampOn l s).reservation = s.reservation := by
  unfold lampOn
  split
  · rfl
  · split <;> rfl

theorem lampOn_lamps (l : LaneIx) (s : State) : LampsKept s (lampOn l s) := by
  unfold lampOn
  split
  · exact .of_ports rfl
  · split
    · intro p
      rw [State.setPort_port]
      split
      · next p' _ _ e => subst e; rw [offerFrame_writes]; exact ⟨rfl, fun _ => rfl⟩
      · exact ⟨rfl, id⟩
    · exact .of_ports rfl

theorem lampOn_lit (l : LaneIx) (s : State) : LampLit s (lampOn l s) l := fun p hp hs he => by
  rw [State.port, lampOn_ports hp hs he]
  simp

theorem falseActs_eq {pre : List Record} {r : Record} {s : State} (newest : NewestOpen pre r s) (l : LaneIx) (rt : Option Int) :
    falseActs l rt s =
      recallAct r (lampAct l r (place .falseStart (some l) r.id (falseStartValue rt (positionIn l r.falseList)) s)) := by
  unfold falseActs
  simp only [newest.openRecord]
  generalize hp : place .falseStart (some l) r.id (falseStartValue rt (positionIn l r.falseList)) s = placed
  have after : NewestOpen pre r placed := newest.of_history (by rw [← hp]; rfl)
  unfold lampAct recallAct recallDue
  by_cases running : r.state = .running
  · have lit : NewestOpen pre r (lampOn l placed) := after.of_history (by rw [(lampOn_seq l placed).1])
    simp only [running, if_true, autoRecall, lit.openRecord, true_and, decide_eq_true_eq]
  · simp [running]

/-- The record after the recall of a false start. -/
def Record.afterRecall (s : State) (r : Record) : Record :=
  { r with recallPulse := if recallDue r s = true then some s.clock else r.recallPulse }

section RecallAct

variable {pre : List Record} {r : Record} {s : State}

theorem recallAct_not_due (h : ¬recallDue r s = true) : recallAct r s = s ∧ r.afterRecall s = r := by
  rw [recallAct, Record.afterRecall, if_neg h, if_neg h]; exact ⟨rfl, rfl⟩

theorem recallAct_due (h : recallDue r s = true) : recallAct r s =
    pulseRequest false r.id (changeRecord r.id (fun r => { r with recallPulse := some s.clock }) s) := if_pos h

theorem recallAct_newest (newest : NewestOpen pre r s) : NewestOpen pre (r.afterRecall s) (recallAct r s) := by
  by_cases due : recallDue r s = true
  · have changed := newest.change (fun r => { r with recallPulse := some s.clock }) rfl newest.isOpen
    have after : r.afterRecall s = { r with recallPulse := some s.clock } := by rw [Record.afterRecall, if_pos due]
    rw [recallAct_due due, after]
    exact changed.of_history rfl
  · rwa [(recallAct_not_due due).1, (recallAct_not_due due).2]

theorem recallAct_frame (r : Record) (s : State) : VerdictFrame s (recallAct r s) := by
  unfold recallAct
  split
  · exact (VerdictFrame.change _ _ s).trans (by constructor <;> rfl)
  · constructor <;> rfl

theorem recallAct_reservation (r : Record) (s : State) : ReservationKept s (recallAct r s) := by
  unfold recallAct
  split
  · exact ReservationKept.changeRecord r.id _ s
  · exact .inl rfl

theorem recallAct_ports (r : Record) (s : State) : (recallAct r s).ports = s.ports := by
  unfold recallAct
  split
  · exact changeRecord_ports _ _ s
  · rfl

theorem recallAct_driver (r : Record) (s : State) :
    (recallAct r s).driver = if recallDue r s = true then .pulsing (tadd s.clock s.line.pulseLength) else s.driver := by
  unfold recallAct
  split
  · rw [changeRecord_eq]; rfl
  · rfl

theorem recallAct_events (r : Record) (s : State) : (recallAct r s).events =
    arriveAll s.line.attnMode (if recallDue r s = true then [recallEvent s.clock r.id] else []) s.events := by
  unfold recallAct
  split
  · rw [changeRecord_eq]; rfl
  · rfl

end RecallAct

namespace Reports

variable {told : LaneIx → Told} {pre : List Record} {l : LaneIx} {r : Record} {s : State}

/-- A report that makes a false start. -/
theorem falseStart (newest : NewestOpen pre r s) {onset : Time} {rt : Option Int} {f : LaneFlags} {d : Detector}
    (h : told l = ⟨fun x => { x with verdict := .falseStart, onset := some onset, rt := rt, flags := x.flags.union f }, d, some rt⟩) :
    ∃ r', Reports told [l] pre r s r'
      (falseActs l rt (changeRecord r.id (fun r => r.giveFalse l onset rt f) (s.setDetector l d))) := by
  have before : NewestOpen pre r (s.setDetector l d) := newest.of_history rfl
  have given := before.change (fun r => r.giveFalse l onset rt f) rfl newest.isOpen
  have frame := VerdictFrame.change r.id (fun r => r.giveFalse l onset rt f) (s.setDetector l d)
  have writes := ((WritesReports.setDetector s l d).trans (.changeRecord r.id (fun r => r.giveFalse l onset rt f) _)).trans
    (.falseActs l rt _)
  have kept := ReservationKept.changeRecord r.id (fun r => r.giveFalse l onset rt f) (s.setDetector l d)
  have events := changeRecord_events r.id (fun r => r.giveFalse l onset rt f) (s.setDetector l d)
  have driver := changeRecord_driver r.id (fun r => r.giveFalse l onset rt f) (s.setDetector l d)
  have ports := changeRecord_ports r.id (fun r => r.giveFalse l onset rt f) (s.setDetector l d)
  rw [falseActs_eq given] at writes ⊢
  set r1 := r.giveFalse l onset rt f with hr1
  set changed := changeRecord r.id (fun r => r.giveFalse l onset rt f) (s.setDetector l d) with hchanged
  set placed := place .falseStart (some l) r1.id (falseStartValue rt (positionIn l r1.falseList)) changed with hplaced
  set lit := lampAct l r1 placed with hlit
  have fell : fallen told [l] = [l] := fallen_singleton_some (by rw [h])
  have fallen' : ∀ k, k ∈ fallen told [l] ↔ k = l := fun k => by rw [fell, List.mem_singleton]
  have litFrame : VerdictFrame (s.setDetector l d) lit := (frame.trans (.place _ _ _ _ _)).trans (lampAct_frame l r1 placed)
  have whole := litFrame.trans (recallAct_frame r1 lit)
  obtain ⟨litSeq, litEvents, litDriver⟩ := lampAct_seq l r1 placed
  have clock : lit.clock = s.clock := litFrame.clock
  have line : lit.line = s.line := litFrame.line
  have due : recallDue r1 lit = recallDue r s := by unfold recallDue; rw [line]; rfl
  have litPorts : r.state ≠ .running → lit.ports = s.ports := fun h => by
    have off : lit = placed := if_neg h
    rw [off]; exact ports
  have placedPort : ∀ p, placed.port p = s.port p := fun p => by rw [State.port, hplaced]; exact congrArg (·[p]) ports
  have placedLane : ∀ k, placed.lane k = s.lane k := fun k => by
    rw [State.lane, hplaced]; exact congrArg (·[k]) (changeRecord_laneMap _ _ _)
  have litLamps : LampsKept placed lit := by
    rw [hlit, lampAct]
    split
    · exact lampOn_lamps l placed
    · exact .of_ports rfl
  have port : ∀ p, (recallAct r1 lit).port p = lit.port p := fun p => by rw [State.port, recallAct_ports]; rfl
  refine ⟨r1.afterRecall lit, ?_⟩
  constructor
  case newest => exact recallAct_newest (given.of_history (congrArg Sequencer.history litSeq))
  case writes => exact writes
  case seqRest => exact whole.seqRest
  case reservation =>
    have lamp : lit.reservation = placed.reservation := by
      rw [hlit, lampAct]
      split
      · exact lampOn_reservation l placed
      · rfl
    exact (ReservationKept.trans (a := s) kept (.inl lamp)).trans (recallAct_reservation r1 lit)
  case detectors =>
    intro k
    rw [State.detector, whole.detectors]
    refine (State.setDetector_detector s l k d).trans ?_
    by_cases hk : l = k
    · subst hk; simp [h]
    · simp [hk, Ne.symm hk]
  case record => rw [Record.onLanes_singleton, h]; rfl
  case recalled => rw [Record.afterRecall, due, clock, fell]; simp [hr1, Record.giveFalse, Record.onLane]
  case driver => rw [recallAct_driver, due, clock, line, litDriver, fell]; simp [hplaced, place, driver]
  case members => intro k; rw [fallen']; exact mem_insertFalse
  case length => rw [fell]; exact insertFalse_length _ _ _ _
  case order => exact fun p hp => insertFalse_filter (hp l ((fallen' l).mpr rfl))
  case events =>
    refine ⟨fun _ => positionIn l r1.falseList, ?_, fun _ _ k hk => ?_⟩
    · have one : placed.events = arrive s.line.attnMode (falseStartEvent told s.clock r.id (fun _ => positionIn l r1.falseList) l) s.events := by
        have rt' : (told l).falseStart.getD none = rt := by rw [h]; rfl
        have mode : changed.line = s.line := frame.line
        have now : changed.clock = s.clock := frame.clock
        rw [hplaced, falseStartEvent, rt', place, events, mode, now]
        rfl
      rw [recallAct_events, due, clock, line, litEvents, fell, one]
      cases recallDue r s <;> rfl
    · obtain rfl := (fallen' k).mp hk
      refine congrArg (positionIn k) (List.filter_eq_self.mpr fun m hm => ?_).symm
      rcases mem_insertFalse.mp hm with held | new
      · exact Bool.or_eq_true_iff.mpr (.inl (decide_eq_true held))
      · exact Bool.or_eq_true_iff.mpr (.inr (decide_eq_true new.le))
  case still => exact fun h => (recallAct_ports r1 lit).trans (litPorts h)
  case lamps =>
    intro p
    rw [port, ← placedPort]
    exact litLamps p
  case lit =>
    intro running k hk p hp hs he
    obtain rfl := (fallen' k).mp hk
    have lamp : lit = lampOn k placed := if_pos running
    rw [port, lamp]
    exact lampOn_lit k placed p (placedLane k ▸ hp) (placedPort p ▸ hs) (placedLane k ▸ he)

end Reports

end Sys2Proof.Machine
end

section
/-! PROOFS. STAND: the held crossings become false starts, and the attempt is closed as ABORTED (R96, R128, R142, R143, R145). -/

namespace Sys2Proof.Machine

/-! ### What the reports of the verdict unit tell a lane (R134 to R142) -/

namespace Told

/-- Nothing is reported of the lane. -/
def silent (d : Detector) : Told := ⟨fun x => x, d, none⟩

/-- Flags are reported. -/
def flagged (f : LaneFlags) (d : Detector) : Told := ⟨fun x => { x with flags := x.flags.union f }, d, none⟩

/-- A false start is reported. -/
def fallen (onset : Time) (rt : Option Int) (f : LaneFlags) (d : Detector) : Told :=
  ⟨fun x => { x with verdict := .falseStart, onset := some onset, rt := rt, flags := x.flags.union f }, d, some rt⟩

/-- The held crossing report, on a lane PENDING or not (R142). -/
def held (pending : Bool) (c : Crossing) (d : Detector) : Told :=
  if pending = true then fallen c.onset none { bounded := c.bounded, stale := c.stale, sat := c.sat } d
  else flagged { bounded := c.bounded, stale := c.stale, sat := c.sat } d

theorem held_lane (pending : Bool) (c : Crossing) (d : Detector) (x : LaneResult) : ((held pending c d).result x).lane = x.lane := by
  unfold held; split <;> rfl

end Told

theorem Untouched.pending {l : LaneIx} {r r1 : Record} {s s1 : State} (h : Untouched l r s r1 s1) : isPending r1 l = isPending r l := by
  rw [isPending, h.result]; rfl

namespace Reports

variable {told : LaneIx → Told} {pre : List Record} {l : LaneIx} {r : Record} {s : State}

theorem silent (newest : NewestOpen pre r s) {d : Detector} (h : told l = .silent d) : Reports told [l] pre r s r (s.setDetector l d) := by
  have same : ∀ x : Record, x.onLane l (fun y => y) = x := fun x => by simp [Record.onLane]
  have quiet := Reports.quiet newest h
  have unchanged : changeRecord r.id (fun r => r.onLane l fun y => y) (s.setDetector l d) = s.setDetector l d := by
    simp [changeRecord, same]
  rwa [unchanged, same] at quiet

theorem flagged (newest : NewestOpen pre r s) {f : LaneFlags} {d : Detector} (h : told l = .flagged f d) :
    ∃ r', Reports told [l] pre r s r' (reportFlags l f (s.setDetector l d)) := by
  have before : NewestOpen pre r (s.setDetector l d) := newest.of_history rfl
  rw [reportFlags]
  simp only [before.openRecord]
  exact ⟨_, Reports.quiet newest h⟩

theorem held (newest : NewestOpen pre r s) {c : Crossing} {d : Detector} (h : told l = .held (isPending r l) c d) :
    ∃ r', Reports told [l] pre r s r' (reportHeld l c (s.setDetector l d)) := by
  have before : NewestOpen pre r (s.setDetector l d) := newest.of_history rfl
  rw [reportHeld]
  simp only [before.openRecord]
  by_cases pending : isPending r l = true
  · rw [Told.held, if_pos pending] at h
    simp only [pending, if_true]
    exact falseStart newest h
  · rw [Told.held, if_neg pending] at h
    simp only [pending]
    exact flagged newest h

end Reports

/-! ### The held crossing reports of STAND (R128, R142) -/

/-- What STAND tells a lane. -/
def standTold (r : Record) (s : State) (l : LaneIx) : Told :=
  match (s.detector l).held with
  | some c => .held (isPending r l) c (s.detector l)
  | none => .silent (s.detector l)

section StandTold

variable {r : Record} {s : State} {l : LaneIx}

theorem standTold_held {c : Crossing} (h : (s.detector l).held = some c) : standTold r s l = .held (isPending r l) c (s.detector l) := by
  rw [standTold, h]

theorem standTold_none (h : (s.detector l).held = none) : standTold r s l = .silent (s.detector l) := by
  rw [standTold, h]

theorem standTold_lane (r : Record) (s : State) (l : LaneIx) (x : LaneResult) : ((standTold r s l).result x).lane = x.lane := by
  cases h : (s.detector l).held with
  | none => rw [standTold_none h]; rfl
  | some c => rw [standTold_held h]; exact Told.held_lane _ _ _ _

theorem standTold_detector (r : Record) (s : State) (l : LaneIx) : (standTold r s l).detector = s.detector l := by
  cases h : (s.detector l).held with
  | none => rw [standTold_none h]; rfl
  | some c => rw [standTold_held h, Told.held]; split <;> rfl

/-- The false starts of STAND are the lanes PENDING that hold a crossing. -/
theorem standTold_falseStart (r : Record) (s : State) (l : LaneIx) :
    (standTold r s l).falseStart.isSome = ((s.detector l).held.isSome && isPending r l) ∧ (standTold r s l).falseStart.getD none = none := by
  cases h : (s.detector l).held with
  | none => rw [standTold_none h]; exact ⟨rfl, rfl⟩
  | some c =>
    rw [standTold_held h, Told.held]
    split
    · next pending => rw [pending]; exact ⟨rfl, rfl⟩
    · next judged => rw [Bool.not_eq_true] at judged; rw [judged]; exact ⟨rfl, rfl⟩

end StandTold

/-- The reports of STAND, in ascending lane number (R142). -/
theorem standReports {pre : List Record} {r : Record} {s : State} (newest : NewestOpen pre r s) (nodup : r.lanes.Nodup) :
    ∃ r', Reports (standTold r s) r.lanes pre r s r' (forLanes r.lanes standDetector s) := by
  refine Reports.forLanes (standTold_lane r s) (fun l r1 s1 newest1 other => ?_) nodup newest fun l _ => ⟨.refl s, rfl, rfl, rfl⟩
  have self : s1.setDetector l (s.detector l) = s1 := by rw [← other.detector]; exact State.setDetector_self s1 l
  unfold standDetector
  rw [other.detector]
  cases h : (s.detector l).held with
  | none =>
    have silent := Reports.silent newest1 (standTold_none (r := r) h)
    rw [self] at silent
    exact ⟨r1, silent⟩
  | some c =>
    have held := Reports.held (told := standTold r s) newest1 (c := c) (d := s.detector l) (by rw [standTold_held h, other.pending])
    rw [self] at held
    exact held

/-! ### The record of an aborted attempt (R143) -/

theorem isPending_eq (r : Record) (l : LaneIx) :
    isPending r l = decide ((r.result l).map LaneResult.verdict = some Verdict.pending) := by
  unfold isPending; cases r.result l <;> simp

theorem isPending_result {r : Record} {l : LaneIx} {x : LaneResult} (h : r.result l = some x) :
    isPending r l = decide (x.verdict = .pending) := by
  simp [isPending, h]

theorem mem_lanes_of_result {r : Record} {l : LaneIx} {x : LaneResult} (h : r.result l = some x) : l ∈ r.lanes := by
  have here : x.lane = l := by simpa using List.find?_some h
  exact here ▸ List.mem_map_of_mem (List.mem_of_find?_eq_some h)

/-- A lane PENDING has no place in the list (R136). -/
theorem FalseListInv.fresh {s : State} (h : FalseListInv s) {r : Record} (hr : r ∈ s.seq.history) (nodup : r.lanes.Nodup) {l : LaneIx}
    (pending : isPending r l = true) : l ∉ r.falseList := fun listed => by
  obtain ⟨x, hx, rfl, fell⟩ := ((h r hr).2 l).mp listed
  rw [(isPending_of_mem nodup hx).mp pending] at fell
  cases fell

/-- A result after the lanes still PENDING are VOID. -/
def LaneResult.void (x : LaneResult) : LaneResult := if x.verdict = .pending then { x with verdict := .void } else x

theorem LaneResult.void_judged {x : LaneResult} (h : x.verdict ≠ .pending) : x.void = x := if_neg h

theorem LaneResult.void_pending {x : LaneResult} (h : x.verdict = .pending) : x.void = { x with verdict := .void } := if_pos h

theorem Record.voidPending_result {r : Record} {l : LaneIx} {x : LaneResult} (h : r.result l = some x) :
    r.voidPending.result l = some x.void := by
  have lane : ∀ y : LaneResult, y.void.lane = y.lane := fun y => by unfold LaneResult.void; split <;> rfl
  have voided : r.voidPending.results = r.results.map LaneResult.void := rfl
  rw [Record.result] at h
  rw [Record.result, voided, List.find?_map]
  have same : (fun y : LaneResult => Decidable.decide (y.lane = l)) ∘ LaneResult.void = fun y => Decidable.decide (y.lane = l) := by
    funext y; rw [Function.comp_apply, lane]
  rw [same, h]
  rfl

/-- What STAND makes of a lane's result. -/
theorem stood_result {r : Record} {s : State} {l : LaneIx} {x : LaneResult} (h : r.result l = some x) :
    (x.verdict ≠ .pending → ((standTold r s l).result x).void.verdict = x.verdict ∧ ((standTold r s l).result x).void.onset = x.onset
      ∧ ((standTold r s l).result x).void.rt = x.rt)
    ∧ (x.verdict = .pending → (s.detector l).held = none → ((standTold r s l).result x).void = { x with verdict := .void })
    ∧ (x.verdict = .pending → ∀ c, (s.detector l).held = some c → ((standTold r s l).result x).void.verdict = .falseStart
      ∧ ((standTold r s l).result x).void.onset = some c.onset ∧ ((standTold r s l).result x).void.rt = none) := by
  have pending := isPending_result h
  refine ⟨fun judged => ?_, fun waits none => ?_, fun waits c held => ?_⟩
  · cases held : (s.detector l).held with
    | none => rw [standTold_none held, Told.silent, LaneResult.void_judged judged]; exact ⟨rfl, rfl, rfl⟩
    | some c =>
      have kept : ∀ f, ({ x with flags := f } : LaneResult).void = { x with flags := f } := fun _ => LaneResult.void_judged judged
      rw [standTold_held held, Told.held, if_neg (by simp [pending, judged]), Told.flagged]
      simp only [kept, and_self]
  · rw [standTold_none none, Told.silent, LaneResult.void_pending waits]
  · rw [standTold_held held, Told.held, if_pos (by simp [pending, waits]), Told.fallen, LaneResult.void_judged (by simp)]
    exact ⟨rfl, rfl, rfl⟩

/-! ### STAND (R96) -/

/-- The record aborted. -/
def Record.abort (r : Record) : Record := { r with state := .aborted }

/-- The times of the sequencer after STAND (R81). -/
def Sequencer.stood (q : Sequencer) : Sequencer := { q with settleEnd := none, setTime := none }

theorem standClose_eq (r : Record) (s : State) : standClose r s =
    closeAttempt .aborted Record.abort Sequencer.stood r.id r.lanes
      (changeRecord r.id Record.voidPending (forLanes r.lanes standDetector s)) := rfl

/-- An event that the queue has room for is the newest. -/
theorem arrive_newest {mode : AttnMode} {e : Event} {q : EventQueue} (h : (arrive mode e q).list.length < 32) :
    (arrive mode e q).list.getLast? = some e := by
  rcases Nat.lt_or_ge q.list.length 32 with room | full
  · rw [arrive_room mode e room]; simp
  · rw [arrive_full mode e full] at h
    exact absurd h (Nat.not_lt.mpr full)

theorem standRequest_refused {s : State} (h : lineState s = .idle ∨ lineState s = .running) : standRequest [] s = refuse s .state := by
  rcases lineState_cases s with ⟨ho, -⟩ | ⟨rec, ho, cases⟩
  · simp [standRequest, ho]
  · have other : ¬(rec.state = .marks ∨ rec.state = .set) := by
      rcases cases with ⟨-, hl⟩ | ⟨-, hl⟩ | ⟨hr, -⟩
      · rw [hl] at h; simp at h
      · rw [hl] at h; simp at h
      · rw [hr]; simp
    simp [standRequest, ho, other]

/-- What the attempt's close leaves as it was. -/
theorem WritesAttempt.rest {s t : State} (h : WritesAttempt s t) :
    t.clock = s.clock ∧ t.pistol = s.pistol ∧ t.driver = s.driver ∧ t.ports = s.ports ∧ t.laneMap = s.laneMap ∧ t.profiles = s.profiles
      ∧ t.line = s.line ∧ t.assemblers = s.assemblers ∧ t.zeros = s.zeros ∧ t.store = s.store ∧ t.host = s.host := by
  rw [WritesAttempt] at h
  rw [h]
  exact ⟨rfl, rfl, rfl, rfl, rfl, rfl, rfl, rfl, rfl, rfl, rfl⟩

section Stood

variable {s : State} {rec r1 : Record} {u : State}

/-- The false starts of STAND, each with its place at insertion, none followed by a recall (R142, R145). -/
theorem standReports_events {pre : List Record} (told : Reports (standTold rec s) rec.lanes pre rec s r1 u) (hf : FalseListInv s)
    (hr : rec ∈ s.seq.history) (ascending : rec.lanes.Pairwise (· < ·)) (state : rec.state ≠ .running) :
    u.events = (rec.lanes.filter fun l =>
        (s.detector l).held.isSome && decide ((rec.result l).map LaneResult.verdict = some Verdict.pending)).foldl
      (fun q l => arrive s.line.attnMode
        { kind := .falseStart, time := s.clock, lane := some l, attempt := rec.id,
          value := 0x8000#16 ++ BitVec.ofNat 16
            ((r1.falseList.filter fun k => decide (k ∈ rec.falseList) || decide (k ≤ l)).idxOf l + 1) } q) s.events := by
  obtain ⟨position, arrived, place⟩ := told.events
  have noRecall : ∀ e es, withRecall (recallDue rec s) e es = es := fun e es => by
    have notDue : recallDue rec s = false := decide_eq_false fun h => state h.1
    cases es <;> simp [withRecall, notDue]
  have lanes : fallen (standTold rec s) rec.lanes = rec.lanes.filter fun l =>
      (s.detector l).held.isSome && decide ((rec.result l).map LaneResult.verdict = some Verdict.pending) :=
    List.filter_congr fun l _ => by rw [(standTold_falseStart rec s l).1, isPending_eq]
  have fresh : ∀ k ∈ fallen (standTold rec s) rec.lanes, k ∉ rec.falseList := fun k hk => by
    have fell := (List.mem_filter.mp hk).2
    rw [(standTold_falseStart rec s k).1, Bool.and_eq_true] at fell
    exact hf.fresh hr (ascending.imp ne_of_lt) fell.2
  rw [arrived, noRecall, arriveAll, List.foldl_map, ← lanes]
  refine List.foldl_ext _ _ _ fun q l hl => ?_
  rw [falseStartEvent, (standTold_falseStart rec s l).2, place ascending fresh l hl]
  rfl

end Stood

/-- Settles O20: the held crossing reports, the lanes still PENDING made VOID, and the close of the record, the rings and the detectors. -/
theorem standAborts : Obligations.StandAborts := by
  refine ⟨fun s r rec hs hp ho state hi => ?_, fun s r hs hp h => hs.refused .stand rfl hp rfl (by decide) (standRequest_refused h)⟩
  have ascending := hi.lanes rec (openRecord_mem ho)
  have nodup : rec.lanes.Nodup := ascending.imp ne_of_lt
  have newest := hi.newestOpen ho
  have waiting : rec.state ≠ .running := fun h => by simp [h] at state
  have notAborted : rec.state ≠ .aborted := fun h => by simp [h] at state
  have taken : serveKind .stand [] s = accepted (standClose rec s) [] := by simp [serveKind, standRequest, ho, state]
  obtain ⟨r1, told⟩ := standReports newest nodup
  have falseStarts := fun hf : FalseListInv s => standReports_events told hf (openRecord_mem ho) ascending waiting
  rw [standClose_eq] at taken
  generalize forLanes rec.lanes standDetector s = u at told taken falseStarts
  have id : r1.id = rec.id := by rw [told.record]; rfl
  have lanes : r1.voidPending.lanes = rec.lanes := by
    rw [Record.voidPending_lanes, told.record]; exact Record.onLanes_lanes _ _ (standTold_lane rec s)
  have opened : NewestOpen s.seq.history.dropLast r1.voidPending (changeRecord rec.id Record.voidPending u) :=
    id ▸ told.newest.change Record.voidPending rfl told.newest.isOpen
  have kept := told.reservation.trans (ReservationKept.changeRecord rec.id Record.voidPending u)
  have frame := OnlyRecords.changeRecord rec.id Record.voidPending u
  have detectors := changeRecord_detectors rec.id Record.voidPending u
  have nextId := changeRecord_nextId rec.id Record.voidPending u
  have writes := WritesAttempt.changeRecord rec.id Record.voidPending u
  generalize changeRecord rec.id Record.voidPending u = v at taken opened kept frame detectors nextId writes
  have closed := closeAttempt_closed opened (f := Record.abort) rfl rfl (q := Sequencer.stood) (fun _ => rfl) .aborted rec.lanes
  have aborted : r1.voidPending.abort ≠ r1.voidPending := fun h => by
    have state' : RecState.aborted = r1.state := congrArg Record.state h
    rw [told.record] at state'
    exact notAborted state'.symm
  have cleared := closeAttempt_cleared opened kept aborted (q := Sequencer.stood) (fun _ => rfl) .aborted rec.lanes
  rw [show r1.voidPending.id = rec.id from id] at closed cleared
  generalize closeAttempt .aborted Record.abort Sequencer.stood rec.id rec.lanes v = t at taken closed cleared
  have notDue : recallDue rec s = false := decide_eq_false fun h => waiting h.1
  have recallPulse : r1.recallPulse = rec.recallPulse := by rw [told.recalled, notDue]; simp
  have driver : u.driver = s.driver := by rw [told.driver, notDue]; simp
  have times : ∀ {α : Type} (f : Sequencer → α), f { t.seq with history := v.seq.history } = f v.seq.stood := fun f => congrArg f closed.times
  have detector : ∀ l, v.detector l = s.detector l := fun l => by
    have same : v.detector l = u.detector l := by rw [State.detector, detectors]; rfl
    rw [same, told.detectors, standTold_detector, ite_self]
  have ring : ∀ l, v.ring l = s.ring l := fun l => by
    rw [State.ring, frame.rings, told.writes.rings]; rfl
  have judged : WritesAttempt s v := by
    refine WritesAttempt.trans (b := u) ?_ writes
    have reported := told.writes
    rw [WritesReports, driver, told.still waiting] at reported
    rw [WritesAttempt, congrArg State.rings reported]
    exact reported
  have line : v.line = s.line := (congrArg State.line judged :)
  obtain ⟨clock, pistol, driver, ports, laneMap, profiles, line', assemblers, zeros, store, host⟩ := (judged.trans closed.writes).rest
  have header : r1.voidPending.abort.t0 = rec.t0 := by rw [told.record]; rfl
  have found : recordOf t rec.id = some r1.voidPending.abort := by rw [← id]; exact closed.newest.recordOf
  have arrived : t.events = arrive s.line.attnMode
      { kind := .aborted, time := s.clock, lane := none, attempt := rec.id, value := BitVec.ofNat 32 r1.falseList.length } v.events := by
    rw [closed.events, line, judged.clock, ← id]; rfl
  refine ⟨_, r1.voidPending.abort, hs.accepted .stand rfl hp rfl (by decide) taken host, found, rfl, lanes, header, recallPulse,
    closed.newest.idle, fun l x hx => ?_, fun l => ?_, fun l hl => ?_, fun l hl => ?_, fun k hk => closed.newest.recordOf_other newest id hk,
    times (·.settleEnd), times (·.setTime), ?_, ?_⟩
  · obtain ⟨judged, void, fell⟩ := stood_result (s := s) hx
    have result : r1.result l = some ((standTold rec s l).result x) := by
      rw [told.record]
      exact Record.onLanes_result (standTold_lane rec s) (mem_lanes_of_result hx) hx
    refine ⟨_, Record.voidPending_result result, judged, void, fun waits c held => ?_⟩
    obtain ⟨verdict, onset, rt⟩ := fell waits c held
    refine ⟨verdict, onset, rt, (told.members l).mpr (.inr (List.mem_filter.mpr ⟨mem_lanes_of_result hx, ?_⟩))⟩
    rw [(standTold_falseStart rec s l).1, held, isPending_result hx, waits]
    rfl
  · rw [← ring, ← id]; exact closed.rings l
  · have done := (closed.detectors l).trans (if_pos hl)
    exact ⟨congrArg Detector.state done, congrArg Detector.attempt done, congrArg Detector.held done, congrArg Detector.heldAgeEnd done,
      congrArg Detector.hold done⟩
  · exact ((closed.detectors l).trans (if_neg hl)).trans (detector l)
  · exact (times (·.nextId)).trans (nextId.trans (congrArg Sequencer.nextId told.seqRest :))
  · refine ⟨clock, pistol, driver, ports, laneMap, profiles, line', assemblers, zeros, store, cleared, fun room => ?_, fun hf => ?_, rfl⟩
    · rw [arrived] at room ⊢
      exact arrive_newest room
    · rw [arrived, frame.events, falseStarts hf]
      rfl

end Sys2Proof.Machine
end

section
/-! PROOFS. The shot accepted in SET: what each detector of the record is told, and what the attempt's start leaves (R93, R111, R122, R125,
R140, R145 to R147). -/

namespace Sys2Proof.Machine

/-! ### The reports at the shot (R138 to R141) -/

namespace Told

/-- The unsure report, on a lane PENDING or not (R141). -/
def unsure (pending : Bool) (f : LaneFlags) (d : Detector) : Told :=
  if pending = true then ⟨fun x => { x with verdict := .unsure, flags := x.flags.union f }, d, none⟩ else flagged f d

/-- The baseline report (R138). -/
def baseline (b : Baseline) (f : LaneFlags) (d : Detector) : Told :=
  ⟨fun x => { x with b := b.b, n := b.n, theta := b.theta, flags := x.flags.union f }, d, none⟩

/-- The judge report, on a lane PENDING or not (R139, R140). -/
def judged (pending : Bool) (limit : Nat) (onset : Time) (rt : Int) (f : LaneFlags) (d : Detector) : Told :=
  if pending = true then
    if rt < limit then fallen onset (some rt) f d
    else ⟨fun x => { x with verdict := .fair, onset := some onset, rt := some rt, flags := x.flags.union f }, d, none⟩
  else flagged f d

/-- A crossing judged with its reaction time, RT_SAT and EARLY (R123, R125). -/
def crossed (pending : Bool) (limit : Nat) (c : Crossing) (ρ : Int × Bool × Bool) (d : Detector) : Told :=
  judged pending limit c.onset ρ.1 { early := ρ.2.2, rtSat := ρ.2.1, bounded := c.bounded, stale := c.stale, sat := c.sat } d

theorem unsure_detector (pending : Bool) (f : LaneFlags) (d : Detector) : (unsure pending f d).detector = d := by
  unfold unsure; split <;> rfl

theorem crossed_detector (pending : Bool) (limit : Nat) (c : Crossing) (ρ : Int × Bool × Bool) (d : Detector) :
    (crossed pending limit c ρ d).detector = d := by
  unfold crossed judged
  split
  · split <;> rfl
  · rfl

theorem unsure_lane (pending : Bool) (f : LaneFlags) (d : Detector) (x : LaneResult) : ((unsure pending f d).result x).lane = x.lane := by
  unfold unsure; split <;> rfl

theorem crossed_lane (pending : Bool) (limit : Nat) (c : Crossing) (ρ : Int × Bool × Bool) (d : Detector) (x : LaneResult) :
    ((crossed pending limit c ρ d).result x).lane = x.lane := by
  unfold crossed judged
  split
  · split <;> rfl
  · rfl

end Told

namespace Reports

variable {told : LaneIx → Told} {pre : List Record} {l : LaneIx} {r : Record} {s : State}

theorem unsure (newest : NewestOpen pre r s) {f : LaneFlags} {d : Detector} (h : told l = .unsure (isPending r l) f d) :
    ∃ r', Reports told [l] pre r s r' (reportUnsure l f (s.setDetector l d)) := by
  have before : NewestOpen pre r (s.setDetector l d) := newest.of_history rfl
  rw [reportUnsure]
  simp only [before.openRecord]
  by_cases pending : isPending r l = true
  · rw [Told.unsure, if_pos pending] at h
    simp only [pending, if_true]
    exact ⟨_, Reports.quiet newest h⟩
  · rw [Told.unsure, if_neg pending] at h
    simp only [pending]
    exact flagged newest h

theorem baseline (newest : NewestOpen pre r s) {b : Baseline} {shortBase sat : Bool} {d : Detector}
    (h : told l = .baseline b { shortBase := shortBase, sat := sat } d) :
    ∃ r', Reports told [l] pre r s r' (reportBaseline l b shortBase sat (s.setDetector l d)) := by
  have before : NewestOpen pre r (s.setDetector l d) := newest.of_history rfl
  rw [reportBaseline]
  simp only [before.openRecord]
  exact ⟨_, Reports.quiet newest h⟩

theorem judged (newest : NewestOpen pre r s) {onset : Time} {rt : Int} {f : LaneFlags} {d : Detector}
    (h : told l = .judged (isPending r l) s.line.reactionLimit onset rt f d) :
    ∃ r', Reports told [l] pre r s r' (reportJudge l onset rt f (s.setDetector l d)) := by
  have before : NewestOpen pre r (s.setDetector l d) := newest.of_history rfl
  have line : (s.setDetector l d).line = s.line := rfl
  rw [reportJudge]
  simp only [before.openRecord, line]
  by_cases pending : isPending r l = true
  · rw [Told.judged, if_pos pending] at h
    simp only [pending, if_true]
    split
    · next below => exact falseStart newest (h.trans (if_pos below))
    · next above => exact ⟨_, Reports.quiet newest (h.trans (if_neg above))⟩
  · rw [Told.judged, if_neg pending] at h
    simp only [pending]
    exact flagged newest h

theorem finalized (newest : NewestOpen pre r s) {b : Baseline} {d : Detector} (hb : b = baselineOf (laneProfile s l) d)
    (h : told l = .baseline b { shortBase := decide (d.n < 64), sat := d.quality }
      { d with baseline := some b, state := .watching, unsteadyRun := 0, persistence := 0 }) :
    ∃ r', Reports told [l] pre r s r' (finalize l (s.setDetector l d)) := by
  have here : (s.setDetector l d).detector l = d := (State.setDetector_detector s l l d).trans (if_pos rfl)
  have profile : laneProfile (s.setDetector l d) l = laneProfile s l := rfl
  unfold finalize
  simp only [here, profile, ← hb, State.setDetector_again]
  exact baseline newest h

end Reports

/-! ### What the shot tells a lane (R111, R125) -/

/-- A detector that knows the shot. -/
def Detector.fired (te : Time) (d : Detector) : Detector := { d with hold := false, shotTime := some te }

/-- What the shot tells a lane, by the state of its detector. -/
def shotTold (te : Time) (r : Record) (s : State) (l : LaneIx) : Told :=
  let d := (s.detector l).fired te
  match d.state with
  | .off => if d.linkOut = true then .unsure (isPending r l) { link := true } { d with state := .done } else .silent d
  | .settling => .unsure (isPending r l) { shortBase := true } { d with state := .done }
  | .capture =>
    if d.n < 16 then .unsure (isPending r l) { shortBase := true } { d with state := .done }
    else .baseline (baselineOf (laneProfile s l) d) { shortBase := decide (d.n < 64), sat := d.quality }
      { d with baseline := some (baselineOf (laneProfile s l) d), state := .watching, unsteadyRun := 0, persistence := 0 }
  | .watching | .crossing => .silent d
  | .done =>
    match d.held with
    | none => .silent d
    | some c => .crossed (isPending r l) s.line.reactionLimit c (reaction c.onset te d.longHeld) { d with held := none, heldAgeEnd := none }

theorem shotFired_reports {told : LaneIx → Told} {te : Time} {pre : List Record} {r : Record} {s : State} (newest : NewestOpen pre r s)
    {l : LaneIx} (h : told l = shotTold te r s l) : ∃ r', Reports told [l] pre r s r' (shotFired te l s) := by
  simp only [shotTold, Detector.fired] at h
  simp only [shotFired]
  cases state : (s.detector l).state with
  | off =>
    simp only [state] at h ⊢
    split
    · next out => exact Reports.unsure newest (h.trans (if_pos out))
    · next linked => exact ⟨r, Reports.silent newest (h.trans (if_neg linked))⟩
  | settling => simp only [state] at h ⊢; exact Reports.unsure newest h
  | capture =>
    simp only [state] at h ⊢
    split
    · next few => exact Reports.unsure newest (h.trans (if_pos few))
    · next enough => exact Reports.finalized newest rfl (h.trans (if_neg enough))
  | watching => simp only [state] at h ⊢; exact ⟨r, Reports.silent newest h⟩
  | crossing => simp only [state] at h ⊢; exact ⟨r, Reports.silent newest h⟩
  | done =>
    simp only [state] at h ⊢
    cases held : (s.detector l).held with
    | none => simp only [held] at h ⊢; exact ⟨r, Reports.silent newest h⟩
    | some c => simp only [held] at h ⊢; exact Reports.judged newest h

/-- What the shot tells a lane hangs on its detector, its result, its profile and the reaction limit. -/
theorem shotTold_congr {te : Time} {l : LaneIx} {r r1 : Record} {s s1 : State} (detector : s1.detector l = s.detector l)
    (pending : isPending r1 l = isPending r l) (profile : laneProfile s1 l = laneProfile s l) (line : s1.line = s.line) :
    shotTold te r1 s1 l = shotTold te r s l := by
  unfold shotTold
  rw [detector, pending, profile, line]

theorem shotTold_untouched {te : Time} {l : LaneIx} {r r1 : Record} {s s1 : State} (h : Untouched l r s r1 s1) :
    shotTold te r1 s1 l = shotTold te r s l :=
  shotTold_congr h.detector h.pending (by rw [h.writes]; rfl) (by rw [h.writes])

theorem shotTold_lane (te : Time) (r : Record) (s : State) (l : LaneIx) (x : LaneResult) : ((shotTold te r s l).result x).lane = x.lane := by
  unfold shotTold
  simp only
  split
  · split
    · exact Told.unsure_lane _ _ _ x
    · rfl
  · exact Told.unsure_lane _ _ _ x
  · split
    · exact Told.unsure_lane _ _ _ x
    · rfl
  · rfl
  · rfl
  · split
    · rfl
    · exact Told.crossed_lane _ _ _ _ _ x

/-- The reports of the detectors at the shot. -/
theorem shotReports (te : Time) {pre : List Record} {r : Record} {s : State} (newest : NewestOpen pre r s) (nodup : r.lanes.Nodup) :
    ∃ r', Reports (shotTold te r s) r.lanes pre r s r' (forLanes r.lanes (shotFired te) s) :=
  Reports.forLanes (shotTold_lane te r s) (fun _ _ _ newest1 other => shotFired_reports newest1 (shotTold_untouched other).symm) nodup
    newest fun _ _ => ⟨.refl s, rfl, rfl, rfl⟩

/-! ### The levels of a baseline (R108) -/

/-- The mean is rounded to the nearest integer, a half upwards. -/
theorem roundedMean_nearest (sum : Int) {n : Nat} (h : 0 < n) :
    -(n : Int) ≤ 2 * sum - 2 * n * roundedMean sum n ∧ 2 * sum - 2 * n * roundedMean sum n < n := by
  have positive : 0 < 2 * (n : Int) := by omega
  have whole := Int.mul_ediv_add_emod (2 * sum + n) (2 * n)
  have least := Int.emod_nonneg (2 * sum + n) positive.ne'
  have less := Int.emod_lt_of_pos (2 * sum + n) positive
  rw [roundedMean]
  constructor <;> linarith

theorem baselineOf_noise {p : Profile} {d : Detector} {hi lo : Int} (hmax : d.maximum = some hi) (hmin : d.minimum = some lo) :
    2 * (baselineOf p d).n - 1 ≤ hi - lo ∧ hi - lo ≤ 2 * (baselineOf p d).n := by
  simp only [baselineOf, hmax, hmin, Option.getD_some]
  omega

theorem baselineOf_upper (p : Profile) (d : Detector) :
    2 * (baselineOf p d).u ≤ 2 * (baselineOf p d).n + p.tAbs ∧ 2 * (baselineOf p d).n + p.tAbs < 2 * (baselineOf p d).u + 2 := by
  simp only [baselineOf]
  omega

/-! ### What the shot tells a lane that is PENDING -/

section ShotTold

variable {te : Time} {r : Record} {s : State} {l : LaneIx}

theorem shotTold_short (h : (s.detector l).state = .settling ∨ ((s.detector l).state = .capture ∧ (s.detector l).n < 16)) :
    shotTold te r s l = .unsure (isPending r l) { shortBase := true } { (s.detector l).fired te with state := .done } := by
  rcases h with settling | ⟨capture, few⟩
  · simp only [shotTold, Detector.fired, settling]
  · simp only [shotTold, Detector.fired, capture, few, if_true]

theorem shotTold_unlinked (off : (s.detector l).state = .off) (out : (s.detector l).linkOut = true) :
    shotTold te r s l = .unsure (isPending r l) { link := true } { (s.detector l).fired te with state := .done } := by
  simp only [shotTold, Detector.fired, off, out, if_true]

theorem shotTold_watching (h : (s.detector l).state = .watching ∨ (s.detector l).state = .crossing) :
    shotTold te r s l = .silent ((s.detector l).fired te) := by
  rcases h with watching | crossing
  · simp only [shotTold, Detector.fired, watching]
  · simp only [shotTold, Detector.fired, crossing]

theorem shotTold_captured (capture : (s.detector l).state = .capture) (enough : 16 ≤ (s.detector l).n) : shotTold te r s l =
    .baseline (baselineOf (laneProfile s l) (s.detector l)) { shortBase := decide ((s.detector l).n < 64), sat := (s.detector l).quality }
      { s.detector l with hold := false, shotTime := some te, baseline := some (baselineOf (laneProfile s l) (s.detector l)),
                          state := .watching, unsteadyRun := 0, persistence := 0 } := by
  simp only [shotTold, Detector.fired, capture, if_neg (Nat.not_lt.mpr enough)]
  rfl

theorem shotTold_held {c : Crossing} (done : (s.detector l).state = .done) (held : (s.detector l).held = some c) : shotTold te r s l =
    .crossed (isPending r l) s.line.reactionLimit c (reaction c.onset te (s.detector l).longHeld)
      { (s.detector l).fired te with held := none, heldAgeEnd := none } := by
  simp only [shotTold, Detector.fired, done, held]

theorem shotTold_linked (off : (s.detector l).state = .off) (linked : ¬(s.detector l).linkOut = true) :
    shotTold te r s l = .silent ((s.detector l).fired te) := by
  simp only [shotTold, Detector.fired, off, if_neg linked]

theorem shotTold_done (done : (s.detector l).state = .done) (none : (s.detector l).held = none) :
    shotTold te r s l = .silent ((s.detector l).fired te) := by
  simp only [shotTold, Detector.fired, done, none]

/-- Every detector knows the shot and has its hold mark clear; one that is DONE holds no crossing any more. -/
theorem shotTold_detector (te : Time) (r : Record) (s : State) (l : LaneIx) :
    (shotTold te r s l).detector.hold = false ∧ (shotTold te r s l).detector.shotTime = some te
      ∧ ((s.detector l).state = .done → (shotTold te r s l).detector.held = none) := by
  cases state : (s.detector l).state with
  | off =>
    by_cases out : (s.detector l).linkOut = true
    · rw [shotTold_unlinked state out, Told.unsure_detector]; exact ⟨rfl, rfl, nofun⟩
    · rw [shotTold_linked state out]; exact ⟨rfl, rfl, nofun⟩
  | settling => rw [shotTold_short (.inl state), Told.unsure_detector]; exact ⟨rfl, rfl, nofun⟩
  | capture =>
    rcases Nat.lt_or_ge (s.detector l).n 16 with few | enough
    · rw [shotTold_short (.inr ⟨state, few⟩), Told.unsure_detector]; exact ⟨rfl, rfl, nofun⟩
    · rw [shotTold_captured state enough]; exact ⟨rfl, rfl, nofun⟩
  | watching => rw [shotTold_watching (.inl state)]; exact ⟨rfl, rfl, nofun⟩
  | crossing => rw [shotTold_watching (.inr state)]; exact ⟨rfl, rfl, nofun⟩
  | done =>
    cases held : (s.detector l).held with
    | none => rw [shotTold_done state held]; exact ⟨rfl, rfl, fun _ => held⟩
    | some c => rw [shotTold_held state held, Told.crossed_detector]; exact ⟨rfl, rfl, fun _ => rfl⟩

/-- Only a lane PENDING is made FALSE (R134). -/
theorem shotTold_fallen (h : (shotTold te r s l).falseStart.isSome = true) : isPending r l = true := by
  by_contra judged
  refine absurd h (Bool.eq_false_iff.mp ?_)
  cases state : (s.detector l).state with
  | off =>
    by_cases out : (s.detector l).linkOut = true
    · rw [shotTold_unlinked state out, Told.unsure, if_neg judged]; rfl
    · rw [shotTold_linked state out]; rfl
  | settling => rw [shotTold_short (.inl state), Told.unsure, if_neg judged]; rfl
  | capture =>
    rcases Nat.lt_or_ge (s.detector l).n 16 with few | enough
    · rw [shotTold_short (.inr ⟨state, few⟩), Told.unsure, if_neg judged]; rfl
    · rw [shotTold_captured state enough]; rfl
  | watching => rw [shotTold_watching (.inl state)]; rfl
  | crossing => rw [shotTold_watching (.inr state)]; rfl
  | done =>
    cases held : (s.detector l).held with
    | none => rw [shotTold_done state held]; rfl
    | some c => rw [shotTold_held state held, Told.crossed, Told.judged, if_neg judged]; rfl

end ShotTold

/-! ### The events of the start -/

theorem mem_withRecall {due : Bool} {e x : Event} {xs : List Event} (h : x ∈ xs) : x ∈ withRecall due e xs := by
  cases xs with
  | nil => cases h
  | cons y ys =>
    cases due with
    | false => exact h
    | true => exact (List.mem_cons.mp h).elim (fun e => e ▸ List.mem_cons_self ..) fun h => List.mem_cons_of_mem _ (List.mem_cons_of_mem _ h)

theorem recall_mem_withRecall {e : Event} {xs : List Event} (h : xs ≠ []) : e ∈ withRecall true e xs := by
  cases xs with
  | nil => exact absurd rfl h
  | cons y ys => exact List.mem_cons_of_mem _ (List.mem_cons_self ..)

/-- Without a recall only the false starts are reported. -/
theorem withRecall_not {due : Bool} {e : Event} {xs : List Event} (h : ¬(xs ≠ [] ∧ due = true)) : withRecall due e xs = xs := by
  cases xs with
  | nil => rfl
  | cons y ys =>
    cases due with
    | false => rfl
    | true => exact absurd ⟨List.cons_ne_nil _ _, rfl⟩ h

/-- At most one event is not a false start: the recall. -/
theorem withRecall_once {due : Bool} {e : Event} {xs : List Event} (h : ∀ x ∈ xs, x.kind ≠ .recallSent) :
    ((withRecall due e xs).filter fun x => x.kind = .recallSent).length ≤ 1 := by
  have none : ∀ ys : List Event, (∀ x ∈ ys, x.kind ≠ .recallSent) → ys.filter (fun x => x.kind = .recallSent) = [] := fun ys hy =>
    List.filter_eq_nil_iff.mpr fun x hx => by simpa using hy x hx
  cases xs with
  | nil => simp [withRecall]
  | cons y ys =>
    have first : y.kind ≠ .recallSent := h y (List.mem_cons_self ..)
    have rest := none ys fun x hx => h x (List.mem_cons_of_mem _ hx)
    cases due with
    | false => simp [withRecall, first, rest]
    | true =>
      rw [withRecall, if_pos rfl, List.filter_cons_of_neg (by simpa using first)]
      rw [List.filter_cons, rest]
      split <;> simp

/-! ### The start of the attempt (R93) -/

/-- The record that the shot starts. -/
def Record.fire (te : Time) (r : Record) : Record := { r with t0 := some te, state := .running }

/-- The part when the shot is placed, before any detector is told of it. -/
def shotPlaced (te : Time) (r : Record) (s : State) : State :=
  let t := changeRecord r.id (Record.fire te) s
  place .shot none r.id te { t with seq := { t.seq with settleEnd := none, windowEnd := some (tadd te s.line.window) } }

theorem startAttempt_eq (te : Time) (r : Record) (s : State) :
    startAttempt te r s = forLanes r.lanes (shotFired te) (shotPlaced te r s) := rfl

theorem shotPlaced_eq (te : Time) (r : Record) (s : State) : shotPlaced te r s =
    { s with
      seq := (shotPlaced te r s).seq, reservation := (shotPlaced te r s).reservation,
      events := arrive s.line.attnMode { kind := .shot, time := s.clock, lane := none, attempt := r.id, value := te } s.events } := by
  simp only [shotPlaced, changeRecord_eq]
  rfl

theorem shotPlaced_newest {pre : List Record} {r : Record} {s : State} (newest : NewestOpen pre r s) (te : Time) :
    NewestOpen pre (r.fire te) (shotPlaced te r s) :=
  (newest.change (Record.fire te) rfl rfl).of_history rfl

/-- What the attempt's start leaves, `b` being the part when the shot is placed, `r1` the record and `u` the part afterwards. -/
structure Started (te : Time) (rec : Record) (s b : State) (r1 : Record) (u : State) : Prop where
  told      : Reports (shotTold te rec s) rec.lanes s.seq.history.dropLast (rec.fire te) b r1 u
  placed    : b = { s.pistolHeld with seq := b.seq, reservation := b.reservation, events := b.events }
  shot      : b.events = arrive s.line.attnMode { kind := .shot, time := s.clock, lane := none, attempt := rec.id, value := te } s.events
  settleEnd : b.seq.settleEnd = none
  windowEnd : b.seq.windowEnd = some (tadd te s.line.window)

theorem started {te : Time} {rec : Record} {s : State} (hi : HistoryInv s) (ho : openRecord s = some rec) :
    ∃ r1, Started te rec s (shotPlaced te rec s.pistolHeld) r1 (startAttempt te rec s.pistolHeld) := by
  have newest := hi.pistolHeld.newestOpen (r := rec) ho
  have nodup : rec.lanes.Nodup := (hi.lanes rec (openRecord_mem ho)).imp ne_of_lt
  have eq := shotPlaced_eq te rec s.pistolHeld
  obtain ⟨r1, told⟩ := shotReports te (shotPlaced_newest newest te) nodup
  have same : shotTold te (rec.fire te) (shotPlaced te rec s.pistolHeld) = shotTold te rec s := by
    funext l
    exact shotTold_congr (by rw [eq]; rfl) rfl (by rw [eq]; rfl) (by rw [eq]; rfl)
  rw [same] at told
  rw [startAttempt_eq]
  refine ⟨r1, told, ?_, ?_, ?_, ?_⟩
  · rw [eq]
  · rw [eq]; rfl
  · rfl
  · rfl

namespace Started

variable {te : Time} {rec r1 : Record} {s b u : State}

theorem line (h : Started te rec s b r1 u) : b.line = s.line := by rw [h.placed]; rfl

theorem clock (h : Started te rec s b r1 u) : b.clock = s.clock := by rw [h.placed]; rfl

/-- The recall is due once automatic recall is on and no recall pulse time is present (R147). -/
theorem due (h : Started te rec s b r1 u) : recallDue (rec.fire te) b = true ↔ s.line.autoRecall = true ∧ rec.recallPulse = none := by
  rw [recallDue, h.line, decide_eq_true_eq]
  exact ⟨fun d => d.2, fun d => ⟨rfl, d⟩⟩

/-- The events of the start: SHOT, the false starts, and the recall after the first of them. -/
theorem events (h : Started te rec s b r1 u) : ∃ position, u.events = arriveAll s.line.attnMode
      ({ kind := .shot, time := s.clock, lane := none, attempt := rec.id, value := te }
        :: withRecall (recallDue (rec.fire te) b) (recallEvent s.clock rec.id)
          ((fallen (shotTold te rec s) rec.lanes).map (falseStartEvent (shotTold te rec s) s.clock rec.id position))) s.events
    ∧ (rec.lanes.Pairwise (· < ·) → (∀ k ∈ fallen (shotTold te rec s) rec.lanes, k ∉ rec.falseList) →
        ∀ l ∈ fallen (shotTold te rec s) rec.lanes,
          position l = positionIn l (r1.falseList.filter fun k => decide (k ∈ rec.falseList) || decide (k ≤ l))) := by
  obtain ⟨position, arrived, place⟩ := h.told.events
  rw [h.shot, h.line, h.clock] at arrived
  exact ⟨position, arrived, place⟩

/-- What a lane that the shot makes FALSE sets off (R136, R145 to R147). -/
theorem fell (h : Started te rec s b r1 u) (hi : HistoryInv s) (hr : rec ∈ s.seq.history) {l : LaneIx} {rt : Int}
    (hl : l ∈ fallen (shotTold te rec s) rec.lanes) (hrt : (shotTold te rec s l).falseStart = some (some rt)) :
    l ∈ r1.falseList
    ∧ (FalseListInv s → u.events.list.length < 32 →
        { kind := .falseStart, time := s.clock, lane := some l, attempt := rec.id,
          value := BitVec.ofInt 16 rt ++ BitVec.ofNat 16
            ((r1.falseList.filter fun k => decide (k ∈ rec.falseList) || decide (k ≤ l)).idxOf l + 1) } ∈ u.events.list)
    ∧ (∀ p, (s.lane l).port = some p → (s.port p).link = .streaming → (s.lane l).lampEnable = true → (u.port p).lamp = true)
    ∧ (s.line.autoRecall = true → rec.recallPulse = none →
        u.driver = .pulsing (tadd s.clock s.line.pulseLength) ∧ r1.recallPulse = some s.clock
        ∧ (u.events.list.length < 32 → recallEvent s.clock rec.id ∈ u.events.list)) := by
  have due := h.due
  have ports : b.ports = s.ports := by rw [h.placed]; rfl
  have lanes : b.laneMap = s.laneMap := by rw [h.placed]; rfl
  obtain ⟨position, arrived, place⟩ := h.events
  refine ⟨(h.told.members l).mpr (.inr hl), fun hf room => ?_, fun p hp hs he => ?_, fun auto fresh => ?_⟩
  · have ascending := hi.lanes rec hr
    have fresh : ∀ k ∈ fallen (shotTold te rec s) rec.lanes, k ∉ rec.falseList := fun k hk =>
      hf.fresh hr (ascending.imp ne_of_lt) (shotTold_fallen (List.mem_filter.mp hk).2)
    rw [arrived] at room ⊢
    have held := mem_arriveAll room (List.mem_cons_of_mem _ (mem_withRecall (List.mem_map_of_mem hl)))
    rw [falseStartEvent, hrt, place ascending fresh l hl] at held
    exact held
  · refine h.told.lit rfl l hl p ?_ ?_ ?_
    · rw [State.lane, lanes]; exact hp
    · rw [State.port, ports]; exact hs
    · rw [State.lane, lanes]; exact he
  · have recalls := And.intro (List.ne_nil_of_mem hl) (due.mpr ⟨auto, fresh⟩)
    refine ⟨?_, ?_, fun room => ?_⟩
    · rw [h.told.driver, if_pos recalls, h.clock, h.line]
    · rw [h.told.recalled, if_pos recalls, h.clock]
    · rw [arrived, recalls.2] at room ⊢
      exact mem_arriveAll room (List.mem_cons_of_mem _ (recall_mem_withRecall (by simpa using recalls.1)))

/-- The recall is pulsed at most once, and only with a lane made FALSE (R147). -/
theorem recallOnce (h : Started te rec s b r1 u) : ∃ placed, u.events.list = s.events.list ++ placed
    ∧ (placed.filter fun e => e.kind = .recallSent).length ≤ 1
    ∧ (s.line.autoRecall = false ∨ rec.recallPulse ≠ none ∨ r1.falseList = rec.falseList →
        (∀ e ∈ placed, e.kind ≠ .recallSent) ∧ u.driver = s.driver ∧ r1.recallPulse = rec.recallPulse) := by
  obtain ⟨position, arrived, -⟩ := h.events
  set reports := (fallen (shotTold te rec s) rec.lanes).map (falseStartEvent (shotTold te rec s) s.clock rec.id position) with hreports
  have kinds : ∀ x ∈ reports, x.kind ≠ .recallSent := fun x hx => by
    obtain ⟨l, -, rfl⟩ := List.mem_map.mp hx
    exact EventKind.noConfusion
  obtain ⟨placed, first, eq⟩ := arriveAll_added s.line.attnMode
    ({ kind := .shot, time := s.clock, lane := none, attempt := rec.id, value := te }
      :: withRecall (recallDue (rec.fire te) b) (recallEvent s.clock rec.id) reports) s.events
  refine ⟨placed, by rw [arrived, eq], ?_, fun unmet => ?_⟩
  · refine ((first.sublist.filter _).length_le).trans ?_
    rw [List.filter_cons_of_neg (by simp)]
    exact withRecall_once kinds
  · have quiet : ¬(fallen (shotTold te rec s) rec.lanes ≠ [] ∧ recallDue (rec.fire te) b = true) := by
      rintro ⟨some, due⟩
      obtain ⟨auto, fresh⟩ := h.due.mp due
      rcases unmet with off | before | same
      · rw [off] at auto; cases auto
      · exact before fresh
      · have longer := h.told.length
        rw [same] at longer
        have positive := List.length_pos_of_ne_nil some
        have given : (rec.fire te).falseList.length = rec.falseList.length := rfl
        omega
    have driver : b.driver = s.driver := by rw [h.placed]; rfl
    refine ⟨fun e he => ?_, ?_, ?_⟩
    · rw [withRecall_not (by simpa [hreports] using quiet)] at first
      rcases List.mem_cons.mp (first.subset he) with shot | report
      · rw [shot]; exact EventKind.noConfusion
      · exact kinds e report
    · rw [h.told.driver, if_neg quiet, driver]
    · rw [h.told.recalled, if_neg quiet]; rfl

end Started

/-! ### A crossing held until the shot (R122, R125) -/

theorem Told.crossed_pending {limit : Nat} {c : Crossing} {rt : Int} {rtSat early : Bool} {d : Detector} (x : LaneResult) :
    (Told.crossed true limit c (rt, rtSat, early) d).result x =
      { x with verdict := if rt < limit then .falseStart else .fair, onset := some c.onset, rt := some rt,
               flags := x.flags.union { early := early, rtSat := rtSat, bounded := c.bounded, stale := c.stale, sat := c.sat } }
    ∧ (rt < limit → (Told.crossed true limit c (rt, rtSat, early) d).falseStart = some (some rt)) := by
  unfold Told.crossed Told.judged
  simp only [if_true]
  split
  · exact ⟨rfl, fun _ => rfl⟩
  · next above => exact ⟨rfl, fun below => absurd below above⟩

/-- Settles O32: the record and the times are written, SHOT is placed, and each detector of the record is told of the shot. -/
theorem shotStartsAttempt : Obligations.ShotStartsAttempt := by
  intro s te rec hr hu hsample hi ho inSet early
  obtain ⟨r1, h⟩ := started (te := te) hi ho
  have held := openRecord_mem ho
  have meaning : shotMeaning te s.pistolHeld = startAttempt te rec s.pistolHeld := by
    have ho' : openRecord s.pistolHeld = some rec := ho
    have early' : s.pistolHeld.seq.earlyEdge = false := early
    simp only [shotMeaning, ho', inSet, early', if_true]
  have step : exec .shotAccepted s = _ := (live_running shotAcceptedStep hr).trans (by rw [shotAcceptedStep_due hu hsample meaning])
  have told := h.told
  generalize startAttempt te rec s.pistolHeld = u at step h told
  generalize shotPlaced te rec s.pistolHeld = b at h told
  have id : r1.id = rec.id := by rw [told.record]; rfl
  have detector : ∀ l, u.detector l = if l ∈ rec.lanes then (shotTold te rec s l).detector else s.detector l := fun l => by
    have same : b.detector l = s.detector l := by rw [h.placed]; rfl
    rw [told.detectors, same]
  have result : ∀ l x, rec.result l = some x → r1.result l = some ((shotTold te rec s l).result x) := fun l x hx => by
    rw [told.record]
    exact Record.onLanes_result (r := rec.fire te) (shotTold_lane te rec s) (mem_lanes_of_result hx) hx
  refine ⟨_, r1, step, ?_, ?_, ?_, ?_, ?_, ?_, ?_, fun room => ?_, fun l hl => ?_, fun l hl => ?_, fun l x hx waits => ⟨_, result l x hx, ?_⟩,
    h.recallOnce, ?_⟩
  · rw [← id]; exact recordOf_last told.newest.history told.newest.ids
  · rw [told.record]; rfl
  · rw [told.record]; rfl
  · rw [told.record]; exact Record.onLanes_lanes _ _ (shotTold_lane te rec s)
  · show u.pistol.unit = .held
    rw [told.writes, h.placed]; rfl
  · exact (congrArg Sequencer.settleEnd told.seqRest :).trans h.settleEnd
  · exact (congrArg Sequencer.windowEnd told.seqRest :).trans h.windowEnd
  · obtain ⟨position, arrived, -⟩ := h.events
    show u.events.list[s.events.list.length]? = _
    rw [arrived, arriveAll_cons, arrive_room _ _ room]
    obtain ⟨added, -, eq⟩ := arriveAll_added s.line.attnMode _ _
    rw [eq]
    simp
  · exact (detector l).trans (if_neg hl)
  · show (u.detector l).hold = false ∧ (u.detector l).shotTime = some te ∧ ((s.detector l).state = .done → (u.detector l).held = none)
    rw [detector, if_pos hl]
    exact shotTold_detector te rec s l
  · have mem := mem_lanes_of_result hx
    have pending : isPending rec l = true := by rw [isPending_result hx, waits]; rfl
    have here : u.detector l = (shotTold te rec s l).detector := (detector l).trans (if_pos mem)
    refine ⟨fun short => ?_, fun off out => ?_, fun watching => ?_, fun capture enough most => ?_, fun c done crossing => ?_⟩
    · rw [shotTold_short short, Told.unsure, if_pos pending] at here ⊢
      exact ⟨rfl, congrArg Detector.state here⟩
    · rw [shotTold_unlinked off out, Told.unsure, if_pos pending] at here ⊢
      exact ⟨rfl, congrArg Detector.state here⟩
    · rw [shotTold_watching watching]; rfl
    · have few : decide ((s.detector l).n < 64) = true := decide_eq_true (by omega)
      rw [shotTold_captured capture enough, few] at here ⊢
      obtain ⟨least, greatest⟩ := roundedMean_nearest (s.detector l).sum (n := (s.detector l).n) (by omega)
      exact ⟨_, rfl, here, least, greatest, fun hi lo hmax hmin => baselineOf_noise hmax hmin, rfl, rfl,
        (baselineOf_upper _ _).1, (baselineOf_upper _ _).2⟩
    · obtain ⟨rt, rtSat, early', judged⟩ : ∃ rt rtSat early', reaction c.onset te (s.detector l).longHeld = (rt, rtSat, early') :=
        ⟨_, _, _, rfl⟩
      have crossed := shotTold_held (te := te) (r := rec) done crossing
      rw [judged, pending] at crossed
      obtain ⟨written, fell⟩ := Told.crossed_pending (limit := s.line.reactionLimit) (c := c) (rt := rt) (rtSat := rtSat)
        (early := early') (d := { (s.detector l).fired te with held := none, heldAgeEnd := none }) x
      refine ⟨rt, rtSat, early', by rw [crossed]; exact written, fun low => ?_, fun fresh high => ?_, fun fresh low high => ?_, fun below => ?_⟩
      · simpa [judged] using reaction_least low
      · simpa [judged] using reaction_greatest fresh high
      · simpa [judged] using reaction_exact fresh low high
      · have hrt : (shotTold te rec s l).falseStart = some (some rt) := by rw [crossed]; exact fell below
        exact h.fell hi held (List.mem_filter.mpr ⟨mem, by rw [hrt]; rfl⟩) hrt
  · have frame : u.rings = b.rings ∧ u.laneMap = b.laneMap ∧ u.line = b.line ∧ u.zeros = b.zeros ∧ u.assemblers = b.assemblers
        ∧ u.store = b.store ∧ u.host = b.host := by rw [told.writes]; exact ⟨rfl, rfl, rfl, rfl, rfl, rfl, rfl⟩
    rw [h.placed] at frame
    exact frame

end Sys2Proof.Machine
end

section
/-! PROOFS. The onset walk: the entries that it passes, and each of its stops (R68, R117 to R120). -/

namespace Sys2Proof.Machine

/-! ### Ring indices and positions (R68) -/

theorem Ring.indexAt_positionAt {r : Ring} (h : r.Ok) {i : Nat} (hi : i < 2048) : r.indexAt (r.positionAt i) = i := by
  have size := h.size
  have index := h.index
  simp only [Ring.indexAt, Ring.positionAt, ringSize]
  omega

/-- The walk's step to the older neighbour goes one position down (R117). -/
theorem Ring.indexAt_older {r : Ring} (h : r.Ok) (p : Nat) : (r.indexAt (p + 1) + ringSize - 1) % ringSize = r.indexAt p := by
  have size := h.size
  simp only [Ring.indexAt, ringSize]
  omega

/-! ### The stops of the walk (R117, R118) -/

section Stops

variable {r : Ring} {w : Slot} {p : Nat} (level : Int) (left : Nat) (t : Time) (stale sat : Bool)

/-- At a limit of R118 the walk ends with the last entry passed. -/
theorem walkSteps_limit (i : Nat) (h : left = 0 ∨ p = 0) : walkSteps r level left i p t stale sat =
    { onset := t, bounded := true, stale := stale, sat := sat, fault := none } := by
  cases left with
  | zero => rfl
  | succ left =>
    obtain rfl : p = 0 := h.resolve_left (Nat.succ_ne_zero left)
    rfl

theorem walkSteps_failed (ok : r.Ok) (hw : r.slot (r.indexAt p) = some w) (failed : w.intact = false) :
    walkSteps r level (left + 1) (r.indexAt (p + 1)) (p + 1) t stale sat =
      { onset := t, bounded := true, stale := stale, sat := sat, fault := some (r.indexAt p) } := by
  simp only [walkSteps, Ring.indexAt_older ok, hw, failed, if_true]

theorem walkSteps_returned (ok : r.Ok) (hw : r.slot (r.indexAt p) = some w) (agrees : w.intact = true) (below : w.entry.force ≤ level) :
    walkSteps r level (left + 1) (r.indexAt (p + 1)) (p + 1) t stale sat =
      { onset := t, bounded := false, stale := stale, sat := sat, fault := none } := by
  simp only [walkSteps, Ring.indexAt_older ok, hw, agrees, below, if_true, Bool.true_eq_false, if_false]

theorem walkSteps_gap (ok : r.Ok) (hw : r.slot (r.indexAt p) = some w) (agrees : w.intact = true) (above : level < w.entry.force)
    (gap : w.entry.gap = true) : walkSteps r level (left + 1) (r.indexAt (p + 1)) (p + 1) t stale sat =
      { onset := w.entry.time, bounded := true, stale := stale || w.entry.stale, sat := sat || w.entry.sat || w.entry.ovl,
        fault := none } := by
  simp only [walkSteps, Ring.indexAt_older ok, hw, agrees, Int.not_le.mpr above, gap, if_true, Bool.true_eq_false, if_false]

end Stops

/-- A first crossing that carries GAP, or that the ring did not write, is the onset (R117, R118). -/
theorem onsetWalk_first (r : Ring) (level : Int) {s1 : FirstCrossing} (stale sat : Bool) (h : s1.gap = true ∨ s1.index = none) :
    onsetWalk r level s1 stale sat = { onset := s1.time, bounded := true, stale := stale, sat := sat, fault := none } := by
  cases gap : s1.gap with
  | true => simp only [onsetWalk, gap]
  | false =>
    have unwritten : s1.index = none := h.resolve_left (by simp [gap])
    simp only [onsetWalk, gap, unwritten]

/-- Any other first crossing is walked back from, by at most 64 entries (R117, R118). -/
theorem onsetWalk_written {r : Ring} {s1 : FirstCrossing} {i : Nat} (ok : r.Ok) (level : Int) (stale sat : Bool) (gap : s1.gap = false)
    (written : s1.index = some i) (hi : i < 2048) : onsetWalk r level s1 stale sat =
      walkSteps r level 64 (r.indexAt (r.positionAt i)) (r.positionAt i) s1.time stale sat := by
  simp only [onsetWalk, gap, written, Ring.indexAt_positionAt ok hi]

/-- Settles O48: past the entries that it passes the walk stands at the position below them, where it stops. -/
theorem onsetWalkFindsRise : Obligations.OnsetWalkFindsRise := by
  refine ⟨fun r level s1 stale sat first => onsetWalk_first r level stale sat first, ?_⟩
  intro r level s1 i k stale sat ws _ _ _ ok gap written hi held length older passed honset hstale hsat
  subst length honset hstale hsat
  have walked := fun few : ws.length ≤ 64 => (onsetWalk_written ok level stale sat gap written hi).trans
    (walkSteps_pass r ok level ws 64 _ _ s1.time stale sat rfl held older few passed)
  refine ⟨fun limit => ?_, fun w0 few room hw0 => ?_⟩
  · rw [walked (by omega)]
    exact walkSteps_limit level _ _ _ _ _ (by omega)
  · obtain ⟨left, hleft⟩ : ∃ left, 64 - ws.length = left + 1 := ⟨63 - ws.length, by omega⟩
    obtain ⟨p, hp⟩ : ∃ p, r.positionAt i - ws.length = p + 1 := ⟨r.positionAt i - (ws.length + 1), by omega⟩
    rw [show r.positionAt i - (ws.length + 1) = p by omega] at hw0 ⊢
    rw [walked (by omega), hleft, hp]
    exact ⟨walkSteps_failed level left _ _ _ ok hw0, walkSteps_returned level left _ _ _ ok hw0,
      walkSteps_gap level left _ _ _ ok hw0⟩

end Sys2Proof.Machine
end

section
/-! PROOFS. Entries taken in CAPTURE, and the baseline that the 64th finalizes (R107, R108, R138). -/

namespace Sys2Proof.Machine

/-! ### The open record after a report on one of its lanes -/

/-- A report changes the result of its lane, where the record has one, and no other (R134). -/
theorem Record.onLane_result_eq {g : LaneResult → LaneResult} (hg : ∀ x, (g x).lane = x.lane) (r : Record) (l k : LaneIx) :
    (r.onLane l g).result k = if k = l then (r.result l).map g else r.result k := by
  split
  · next here =>
    subst here
    cases hx : r.result k with
    | some x => exact Record.onLane_result hg hx
    | none =>
      rw [← Record.onLanes_singleton fun _ => g, Record.onLanes_result_map fun _ => hg, hx]
      rfl
  · next other =>
    rw [← Record.onLanes_singleton fun _ => g]
    exact Record.onLanes_result_other (fun _ => hg) r (by simpa using other)

/-- The open record after a change to one of its lanes, read back by its id (R80, R83). -/
theorem recordOf_onLane {s : State} {r : Record} {g : LaneResult → LaneResult} (hi : HistoryInv s) (ho : openRecord s = some r)
    (l : LaneIx) (hg : ∀ x, (g x).lane = x.lane) : ∃ r', recordOf (changeRecord r.id (fun r => r.onLane l g) s) r.id = some r'
      ∧ ∀ k, r'.result k = if k = l then (r.result l).map g else r.result k := by
  have newest := hi.newestOpen ho
  exact ⟨r.onLane l g, recordOf_last (r := r.onLane l g) (newest.changed _) newest.ids, Record.onLane_result_eq hg r l⟩

/-- The baseline report, read back lane by lane (R138). -/
theorem recordOf_reportBaseline {s : State} {r : Record} (hi : HistoryInv s) (ho : openRecord s = some r) (l : LaneIx) (b : Baseline)
    (shortBase sat : Bool) : ∃ r', recordOf (reportBaseline l b shortBase sat s) r.id = some r'
      ∧ ∀ k, r'.result k = if k = l then (r.result l).map fun x =>
          { x with b := b.b, n := b.n, theta := b.theta, flags := x.flags.union { shortBase := shortBase, sat := sat } }
        else r.result k := by
  simp only [reportBaseline, ho]
  exact recordOf_onLane hi ho l fun _ => rfl

/-- The flags of a report, read back (R132). -/
theorem recordOf_reportFlags {s : State} {r : Record} (hi : HistoryInv s) (ho : openRecord s = some r) (l : LaneIx) (f : LaneFlags) :
    ∃ r', recordOf (reportFlags l f s) r.id = some r'
      ∧ r'.result l = (r.result l).map fun x => { x with flags := x.flags.union f } := by
  simp only [reportFlags, ho]
  obtain ⟨r', held, result⟩ := recordOf_onLane (g := fun x => { x with flags := x.flags.union f }) hi ho l fun _ => rfl
  exact ⟨r', held, (result l).trans (if_pos rfl)⟩

theorem reportBaseline_detectors (l : LaneIx) (b : Baseline) (shortBase sat : Bool) (s : State) :
    (reportBaseline l b shortBase sat s).detectors = s.detectors := by
  unfold reportBaseline
  split
  · rfl
  · exact changeRecord_detectors _ _ s

/-! ### The entries (R107, R108) -/

theorem offerEntry_held {s : State} {l : LaneIx} {d : Detector} (e : Entry) (index : Option Nat) (hd : s.detector l = d)
    (hs : d.state = .capture) (hold : d.hold = true) : offerEntry l e index s = s := by
  subst hd
  simp only [offerEntry, hs, hold, if_true]

/-- An entry that is not held is accumulated, and the 64th finalizes (R107). -/
theorem offerEntry_capture {s : State} {l : LaneIx} {d : Detector} (e : Entry) (index : Option Nat) (hd : s.detector l = d)
    (hs : d.state = .capture) (free : d.hold = false) : offerEntry l e index s =
    if d.n + 1 = 64 then finalize l (s.setDetector l (d.accumulate e)) else s.setDetector l (d.accumulate e) := by
  subst hd
  simp only [offerEntry, hs, free, captureEntry, Detector.accumulate, Bool.false_eq_true, if_false]

/-- What finalization writes: the levels and the state of the detector, and the baseline report (R108). -/
theorem finalize_setDetector {s : State} {l : LaneIx} {d : Detector} {b : Baseline} (hb : b = baselineOf (laneProfile s l) d) :
    finalize l (s.setDetector l d) = reportBaseline l b (decide (d.n < 64)) d.quality
      (s.setDetector l { d with baseline := some b, state := .watching, unsteadyRun := 0, persistence := 0 }) := by
  have here : (s.setDetector l d).detector l = d := (State.setDetector_detector s l l d).trans (if_pos rfl)
  have profile : laneProfile (s.setDetector l d) l = laneProfile s l := rfl
  simp only [finalize, here, profile, ← hb, State.setDetector_again]

/-- Settles O49: of the accumulated entries only the 64th calls for the baseline, whose levels are those of `baselineOf`. -/
theorem captureBuildsBaseline : Obligations.CaptureBuildsBaseline := by
  intro s l e index d d' hd hs hd'
  have accumulated : d.accumulate e = d' := by
    rw [hd', Detector.accumulate]
    cases d.maximum <;> cases d.minimum <;> rfl
  refine ⟨fun hold => offerEntry_held e index hd.symm hs hold, fun free more => ?_, fun free last => ?_⟩
  · rw [offerEntry_capture e index hd.symm hs free, if_neg (by omega), accumulated]
    rfl
  · have count : d'.n = 64 := by rw [hd']; exact congrArg (· + 1) last
    obtain ⟨b, hb⟩ : ∃ b, b = baselineOf (laneProfile s l) d' := ⟨_, rfl⟩
    obtain ⟨v, hv⟩ : ∃ v, v = s.setDetector l
      { d' with baseline := some b, state := .watching, unsteadyRun := 0, persistence := 0 } := ⟨_, rfl⟩
    have finalized : offerEntry l e index s = reportBaseline l b false d'.quality v := by
      rw [offerEntry_capture e index hd.symm hs free, if_pos (by omega), accumulated, finalize_setDetector hb, hv, count]
      rfl
    have detector : ∀ k, (reportBaseline l b false d'.quality v).detector k = v.detector k := fun k => by
      rw [State.detector, reportBaseline_detectors]; rfl
    have frame := OnlyRecords.reportBaseline l b false d'.quality v
    obtain ⟨least, greatest⟩ := roundedMean_nearest d'.sum (n := d'.n) (by omega)
    have mean : b.b = roundedMean d'.sum d'.n := by rw [hb]; rfl
    rw [← mean, count] at least greatest
    refine ⟨_, b, finalized, ?_, fun k other => ?_, ?_, ?_, ?_, by omega, by omega, fun hi lo hmax hmin => ?_, ?_, ?_, ?_, ?_,
      fun rec hist ho => ?_⟩
    · rw [detector, hv, State.setDetector_detector, if_pos rfl]
    · rw [detector, hv, State.setDetector_detector, if_neg (Ne.symm other)]
    · rw [frame.events, hv]; rfl
    · rw [frame.rings, hv]; rfl
    · rw [frame.ports, hv]; rfl
    · rw [hb]; exact baselineOf_noise hmax hmin
    · rw [hb]; rfl
    · rw [hb]; rfl
    · rw [hb]; exact (baselineOf_upper _ _).1
    · rw [hb]; exact (baselineOf_upper _ _).2
    · exact recordOf_reportBaseline (hist.of_seq (by rw [hv]; rfl)) (by rw [hv]; exact ho) l b false d'.quality

end Sys2Proof.Machine
end

section
/-! PROOFS. Entries taken in WATCHING: the unsteady test and the start of a crossing run (R113 to R116). -/

namespace Sys2Proof.Machine

/-! ### The unsteady test (R113, R114) -/

/-- The unsteady run of a detector after an entry that is tested. -/
def unsteadyRunAfter (p : Profile) (b : Baseline) (e : Entry) (run : Nat) : Nat :=
  if p.unsteady = true ∧ b.u < (deviation b e : Int) then min (run + 1) 40 else 0

section UnsteadyTest

variable {s : State} {l : LaneIx} {d : Detector} {b : Baseline} {run : Nat} (e : Entry)

/-- An entry is tested before the shot is known and with no edge in qualification. -/
theorem Detector.tested (shot : d.shotTime = none) (free : d.hold = false) : ¬(d.shotTime.isSome = true ∨ d.hold = true) := by
  simp [shot, free]

/-- There is no test once the shot is known or an edge is in qualification. -/
theorem unsteadyTest_untested (hd : s.detector l = d) (hb : d.baseline = some b) (h : d.shotTime ≠ none ∨ d.hold = true) :
    unsteadyTest l e s = s := by
  subst hd
  simp only [unsteadyTest, hb, if_pos (h.imp_left Option.isSome_iff_ne_none.mpr)]

/-- The entry counted, or the run set to 0, with nothing reported. -/
theorem unsteadyTest_counted (hd : s.detector l = d) (hb : d.baseline = some b) (shot : d.shotTime = none) (free : d.hold = false)
    (hrun : run = unsteadyRunAfter (laneProfile s l) b e d.unsteadyRun) (quiet : run ≠ 40 ∨ d.unsteadyReported = true) :
    unsteadyTest l e s = s.setDetector l { d with unsteadyRun := run } := by
  subst hd
  simp only [unsteadyTest, hb, if_neg (Detector.tested shot free)]
  split
  · next outside =>
    rw [unsteadyRunAfter, if_pos outside] at hrun
    have unreported : ¬(run = 40 ∧ (s.detector l).unsteadyReported = false) := fun ⟨fortieth, first⟩ => by
      simp [fortieth, first] at quiet
    rw [← hrun, if_neg unreported]
  · next inside => rw [hrun, unsteadyRunAfter, if_neg inside]

/-- The fortieth entry in a row outside the band, reported with its deviation the first time. -/
theorem unsteadyTest_reported (hd : s.detector l = d) (hb : d.baseline = some b) (shot : d.shotTime = none) (free : d.hold = false)
    (fortieth : unsteadyRunAfter (laneProfile s l) b e d.unsteadyRun = 40) (first : d.unsteadyReported = false) :
    unsteadyTest l e s = place .unsteady (some l) (d.attempt.getD 0) (BitVec.ofNat 32 (deviation b e))
      (reportFlags l { unsteady := true } (s.setDetector l { d with unsteadyRun := 40, unsteadyReported := true })) := by
  subst hd
  have outside : (laneProfile s l).unsteady = true ∧ b.u < (deviation b e : Int) := by
    by_contra inside
    rw [unsteadyRunAfter, if_neg inside] at fortieth
    cases fortieth
  rw [unsteadyRunAfter, if_pos outside] at fortieth
  simp only [unsteadyTest, hb, if_neg (Detector.tested shot free), if_pos outside, fortieth, first, and_self, if_true]

/-- The unsteady test keeps the levels of the detector. -/
theorem unsteadyTest_baseline (hd : s.detector l = d) (hb : d.baseline = some b) :
    ((unsteadyTest l e s).detector l).baseline = some b := by
  by_cases untested : d.shotTime ≠ none ∨ d.hold = true
  · rw [unsteadyTest_untested e hd hb untested, hd, hb]
  obtain ⟨shot, free⟩ : d.shotTime = none ∧ d.hold = false := by simpa using untested
  by_cases quiet : unsteadyRunAfter (laneProfile s l) b e d.unsteadyRun ≠ 40 ∨ d.unsteadyReported = true
  · rw [unsteadyTest_counted e hd hb shot free rfl quiet, State.setDetector_detector, if_pos rfl]
    exact hb
  · obtain ⟨fortieth, first⟩ : unsteadyRunAfter (laneProfile s l) b e d.unsteadyRun = 40 ∧ d.unsteadyReported = false := by
      simpa using quiet
    rw [unsteadyTest_reported e hd hb shot free fortieth first, State.detector, place_detectors]
    exact (congrArg Detector.baseline (reportFlags_detector l _ s _)).trans hb

end UnsteadyTest

theorem unsteadyTest_profile (l : LaneIx) (e : Entry) (s : State) : laneProfile (unsteadyTest l e s) l = laneProfile s l := by
  have writes := WritesReports.unsteadyTest l e s
  rw [WritesReports] at writes
  rw [writes]
  rfl

/-! ### The crossing run (R115, R116) -/

/-- A detector whose crossing run an entry begins. -/
def Detector.beginCrossing (d : Detector) (e : Entry) (index : Option Nat) : Detector :=
  { d with state := .crossing, persistence := 1, first := some { index := index, time := e.time, gap := e.gap },
           runStale := e.stale, runSat := e.sat || e.ovl }

/-- An entry in WATCHING: the unsteady test, then the crossing test (R113, R115). -/
theorem offerEntry_watching {s : State} {l : LaneIx} (e : Entry) (index : Option Nat) (hs : (s.detector l).state = .watching) :
    offerEntry l e index s = crossingTest l e index (unsteadyTest l e s) := by
  simp only [offerEntry, hs]

theorem crossingTest_below {u : State} {l : LaneIx} {b : Baseline} {e : Entry} (index : Option Nat)
    (hb : (u.detector l).baseline = some b) (below : e.force < b.theta) : crossingTest l e index u = u := by
  simp only [crossingTest, hb, if_neg (Int.not_le.mpr below)]

theorem crossingTest_above {u : State} {l : LaneIx} {b : Baseline} {e : Entry} (index : Option Nat)
    (hb : (u.detector l).baseline = some b) (above : b.theta ≤ e.force) :
    crossingTest l e index u = countCrossing l ((u.detector l).beginCrossing e index) u := by
  simp only [crossingTest, Detector.beginCrossing, hb, if_pos above]

/-- What is counted in place of a detector does not depend on the detector that it replaces. -/
theorem countCrossing_setDetector (l : LaneIx) (d c : Detector) (u : State) :
    countCrossing l d (u.setDetector l c) = countCrossing l d u := by
  have profile : laneProfile (u.setDetector l c) l = laneProfile u l := rfl
  simp only [countCrossing, State.setDetector_again, profile]

/-- The entry that begins a run, counted again by a run set back to 0, gives that run once more (R116). -/
theorem offerEntry_uncounted {u : State} {l : LaneIx} {b : Baseline} {e : Entry} (index : Option Nat)
    (hb : (u.detector l).baseline = some b) (above : b.theta ≤ e.force) :
    offerEntry l e index (u.setDetector l { (u.detector l).beginCrossing e index with persistence := 0 }) =
      countCrossing l ((u.detector l).beginCrossing e index) u := by
  have here := (State.setDetector_detector u l l { (u.detector l).beginCrossing e index with persistence := 0 }).trans (if_pos rfl)
  have marks : (e.sat || e.ovl || e.sat || e.ovl) = (e.sat || e.ovl) := by rw [Bool.or_assoc, Bool.or_self]
  rw [offerEntry_crossing e index here rfl hb, if_pos above, countCrossing_setDetector]
  simp only [Detector.beginCrossing, Bool.or_self, marks]

/-- Settles O50: the state after the unsteady test is the one that the crossing test takes the entry in. -/
theorem watchingEntries : Obligations.WatchingEntries := by
  intro s l e index d d' b run hd hs hb hrun
  have here : s.detector l = d := hd.symm
  have baseline : ((unsteadyTest l e s).detector l).baseline = some b := unsteadyTest_baseline e here hb
  have taken := offerEntry_watching e index (here ▸ hs)
  refine ⟨unsteadyTest l e s, unsteadyTest_untested e here hb, fun shot free => ?_, fun below => ?_, fun above begun => ?_⟩
  · have tested : run = unsteadyRunAfter (laneProfile s l) b e d.unsteadyRun := by
      rw [hrun, if_neg (by simp [shot, free])]; rfl
    refine ⟨unsteadyTest_counted e here hb shot free tested, fun fortieth first => ?_⟩
    obtain ⟨v, hv⟩ : ∃ v, v = s.setDetector l { d with unsteadyRun := 40, unsteadyReported := true } := ⟨_, rfl⟩
    have frame := OnlyRecords.reportFlags l { unsteady := true } v
    rw [unsteadyTest_reported e here hb shot free (tested.symm.trans fortieth) first, ← hv]
    refine ⟨?_, ?_, ?_, ?_, ?_, ?_, ?_, fun rec hist ho => ?_⟩
    · rw [place_detectors, (LaneReport.reportFlags l _ v).detectors, hv]; rfl
    · rw [place_events, frame.events, frame.line, frame.clock, hv]; rfl
    · rw [place_ports, frame.ports, hv]; rfl
    · rw [place_rings, frame.rings, hv]; rfl
    · rw [place_driver, frame.driver, hv]; rfl
    · rw [place_line, frame.line, hv]; rfl
    · rw [place_laneMap, frame.laneMap, hv]; rfl
    · exact recordOf_reportFlags (hist.of_seq (by rw [hv]; rfl)) (by rw [hv]; exact ho) l _
  · rw [taken, crossingTest_below index baseline below]
  · have counted : offerEntry l e index s = countCrossing l d' (unsteadyTest l e s) := by
      rw [taken, crossingTest_above index baseline above, begun]; rfl
    refine ⟨fun more => ?_, fun _ => ?_⟩
    · have unconfirmed : d'.persistence ≠ (laneProfile (unsteadyTest l e s) l).p := by
        rw [unsteadyTest_profile, begun]; exact more.symm
      rw [counted, countCrossing, if_neg unconfirmed]; rfl
    · rw [counted, begun]
      exact (offerEntry_uncounted index baseline above).symm

end Sys2Proof.Machine
end

section
/-! PROOFS. The place of an insertion in the false-start list, and the order of onset that it keeps (R2, R136, R137). -/

namespace Sys2Proof.Machine

section Span

variable {base : Time}

/-- Within a span of less than 2^31 ticks the difference of two times is that of their counts from its start (R2). -/
theorem tdiff_of_span {s t : Time} (hs : (s - base).toNat < 2147483648) (ht : (t - base).toNat < 2147483648) :
    tdiff s t = ((s - base).toNat : Int) - ((t - base).toNat : Int) := by
  have := s.isLt
  have := t.isLt
  have := base.isLt
  rw [time_sub_toNat] at hs ht
  rw [tdiff_eq, time_sub_toNat, time_sub_toNat, time_sub_toNat]
  split <;> omega

/-- Within such a span lanes go by their onset, and by their number where the onsets are equal (R137). -/
theorem precedes_iff {a b : LaneIx} {ta tb : Time} (ha : (ta - base).toNat < 2147483648) (hb : (tb - base).toNat < 2147483648) :
    precedes a ta b tb = true
      ↔ (ta - base).toNat < (tb - base).toNat ∨ ((ta - base).toNat = (tb - base).toNat ∧ a < b) := by
  simp only [precedes, Bool.or_eq_true, Bool.and_eq_true, decide_eq_true_eq, isBefore_iff, eq_iff_tdiff, tdiff_of_span ha hb, Fin.lt_def]
  omega

end Span

/-- A lane goes before another, by their onsets in these results. -/
def GoesBefore (results : List LaneResult) (a b : LaneIx) : Prop :=
  ∀ ta tb, onsetOf results a = some ta → onsetOf results b = some tb → precedes a ta b tb = true

/-- The lane has an onset within the 2^31 ticks that begin at `base`. -/
def OnsetWithin (results : List LaneResult) (base : Time) (l : LaneIx) : Prop :=
  ∃ t, onsetOf results l = some t ∧ (t - base).toNat < 2147483648

theorem GoesBefore.trans {results : List LaneResult} {base : Time} {a b c : LaneIx} (ha : OnsetWithin results base a)
    (hb : OnsetWithin results base b) (hc : OnsetWithin results base c) (hab : GoesBefore results a b) (hbc : GoesBefore results b c) :
    GoesBefore results a c := by
  obtain ⟨ta, oa, sa⟩ := ha
  obtain ⟨tb, ob, sb⟩ := hb
  obtain ⟨tc, oc, sc⟩ := hc
  have ab := (precedes_iff sa sb).mp (hab ta tb oa ob)
  have bc := (precedes_iff sb sc).mp (hbc tb tc ob oc)
  intro ta' tc' oa' oc'
  obtain rfl := Option.some.inj (oa.symm.trans oa')
  obtain rfl := Option.some.inj (oc.symm.trans oc')
  rw [Fin.lt_def] at ab bc
  exact (precedes_iff sa sc).mpr (by rw [Fin.lt_def]; omega)

/-- Of two lanes one goes before the other. -/
theorem GoesBefore.of_not {results : List LaneResult} {base : Time} {a b : LaneIx} {ta : Time} (oa : onsetOf results a = some ta)
    (sa : (ta - base).toNat < 2147483648) (hb : OnsetWithin results base b) (other : b ≠ a)
    (h : ∀ tb, onsetOf results b = some tb → precedes a ta b tb = false) : GoesBefore results b a := by
  obtain ⟨tb, ob, sb⟩ := hb
  have not := h tb ob
  rw [← Bool.not_eq_true, precedes_iff sa sb, Fin.lt_def] at not
  have apart : b.val ≠ a.val := fun e => other (Fin.ext e)
  intro tb' ta' ob' oa'
  obtain rfl := Option.some.inj (oa.symm.trans oa')
  obtain rfl := Option.some.inj (ob.symm.trans ob')
  exact (precedes_iff sb sa).mpr (by rw [Fin.lt_def]; omega)

/-- A lane is inserted after the lanes that it does not precede, before the first that it does (R136). -/
theorem insertFalse_place (results : List LaneResult) (a : LaneIx) (ta : Time) (ls : List LaneIx) :
    ∃ before after, ls = before ++ after ∧ insertFalse results a ta ls = before ++ a :: after
      ∧ (∀ b ∈ before, ∀ tb, onsetOf results b = some tb → precedes a ta b tb = false)
      ∧ ∀ b tb, after.head? = some b → onsetOf results b = some tb → precedes a ta b tb = true := by
  induction ls with
  | nil => exact ⟨[], [], rfl, rfl, nofun, nofun⟩
  | cons b rest ih =>
    obtain ⟨before, after, eq, inserted, passed, first⟩ := ih
    have later : (∀ tb, onsetOf results b = some tb → precedes a ta b tb = false) →
        ∃ before after, b :: rest = before ++ after ∧ b :: insertFalse results a ta rest = before ++ a :: after
          ∧ (∀ b ∈ before, ∀ tb, onsetOf results b = some tb → precedes a ta b tb = false)
          ∧ ∀ b tb, after.head? = some b → onsetOf results b = some tb → precedes a ta b tb = true := fun hb =>
      ⟨b :: before, after, by rw [eq]; rfl, by rw [inserted]; rfl, List.forall_mem_cons.mpr ⟨hb, passed⟩, first⟩
    rw [insertFalse]
    split
    · next tb ob =>
      split
      · next hp =>
        refine ⟨[], b :: rest, rfl, rfl, nofun, fun c tc hc oc => ?_⟩
        obtain rfl := Option.some.inj hc
        obtain rfl := Option.some.inj (ob.symm.trans oc)
        exact hp
      · next hp =>
        refine later fun tb' ob' => ?_
        obtain rfl := Option.some.inj (ob.symm.trans ob')
        exact Bool.not_eq_true _ ▸ hp
    · next ob => exact later fun tb' ob' => by rw [ob] at ob'; cases ob'

/-- The insertion of another lane keeps a list in order (R136, R137). -/
theorem insertFalse_ordered {results : List LaneResult} {a : LaneIx} {ta base : Time} {ls : List LaneIx}
    (oa : onsetOf results a = some ta) (sa : (ta - base).toNat < 2147483648) (within : ∀ l ∈ ls, OnsetWithin results base l)
    (other : a ∉ ls) (ordered : ls.Pairwise (GoesBefore results)) : (insertFalse results a ta ls).Pairwise (GoesBefore results) := by
  obtain ⟨before, after, rfl, inserted, passed, first⟩ := insertFalse_place results a ta ls
  obtain ⟨orderedBefore, orderedAfter, across⟩ := List.pairwise_append.mp ordered
  have beforeNew : ∀ b ∈ before, GoesBefore results b a := fun b hb =>
    have held := List.mem_append_left after hb
    .of_not oa sa (within b held) (fun e => other (e ▸ held)) (passed b hb)
  have newAfter : ∀ c ∈ after, GoesBefore results a c := by
    cases after with
    | nil => exact nofun
    | cons b rest =>
      have newFirst : GoesBefore results a b := fun ta' tb oa' ob => by
        obtain rfl := Option.some.inj (oa.symm.trans oa')
        exact first b tb rfl ob
      refine List.forall_mem_cons.mpr ⟨newFirst, fun c hc => ?_⟩
      have head : OnsetWithin results base b := within b (by simp)
      have tail : OnsetWithin results base c := within c (by simp [hc])
      exact newFirst.trans ⟨ta, oa, sa⟩ head tail ((List.pairwise_cons.mp orderedAfter).1 c hc)
  rw [inserted]
  refine List.pairwise_append.mpr ⟨orderedBefore, List.pairwise_cons.mpr ⟨newAfter, orderedAfter⟩, fun b hb c hc => ?_⟩
  rcases List.mem_cons.mp hc with rfl | hc
  · exact beforeNew b hb
  · exact across b hb c hc

/-- Settles O52: the place found by the insertion, and the order that it keeps among onsets within a span. -/
theorem falseStartInsertion : Obligations.FalseStartInsertion := fun results a ta _ ls oa sa within =>
  ⟨insertFalse_place results a ta ls, insertFalse_ordered oa sa within⟩

end Sys2Proof.Machine
end

section
/-! PROOFS. Every false-start list holds the FALSE lanes of its record, once each, whatever the command (R134 to R143). -/

namespace Sys2Proof.Machine

/-- The record's false-start list holds each lane whose verdict is FALSE exactly once and no other lane (R136). -/
def Record.ListsFalse (r : Record) : Prop :=
  r.falseList.Nodup ∧ ∀ l, l ∈ r.falseList ↔ ∃ x ∈ r.results, x.lane = l ∧ x.verdict = .falseStart

theorem falseListInv_iff (s : State) : FalseListInv s ↔ ∀ r ∈ s.seq.history, r.ListsFalse := Iff.rfl

namespace Record.ListsFalse

variable {r r' : Record}

/-- Results changed alike, each keeping its lane and whether it is FALSE, need no change of the list. -/
theorem mapped (h : r.ListsFalse) (g : LaneResult → LaneResult) (lane : ∀ x, (g x).lane = x.lane)
    (verdict : ∀ x ∈ r.results, (g x).verdict = .falseStart ↔ x.verdict = .falseStart) :
    ({ r with results := r.results.map g } : Record).ListsFalse := by
  refine ⟨h.1, fun l => (h.2 l).trans ?_⟩
  simp only [List.mem_map, exists_exists_and_eq_and, lane]
  exact exists_congr fun x => and_congr_right fun hx => and_congr_right fun _ => (verdict x hx).symm

/-- The result of one lane changed, which stays FALSE or not. -/
theorem onLane (h : r.ListsFalse) (l : LaneIx) {g : LaneResult → LaneResult} (lane : ∀ x, (g x).lane = x.lane)
    (verdict : ∀ x ∈ r.results, x.lane = l → ((g x).verdict = .falseStart ↔ x.verdict = .falseStart)) : (r.onLane l g).ListsFalse := by
  refine h.mapped _ (fun x => ?_) fun x hx => ?_
  · split
    · exact lane x
    · rfl
  · split
    · next hl => exact verdict x hx hl
    · rfl

/-- A lane PENDING is given a verdict other than FALSE (R134). -/
theorem judged (h : r.ListsFalse) (nodup : r.lanes.Nodup) {l : LaneIx} (pending : isPending r l = true) {g : LaneResult → LaneResult}
    (lane : ∀ x, (g x).lane = x.lane) (verdict : ∀ x, (g x).verdict ≠ .falseStart) : (r.onLane l g).ListsFalse :=
  h.onLane l lane fun x hx hl => by
    have waits : x.verdict = .pending := (isPending_of_mem nodup hx).mp (hl ▸ pending)
    simp [verdict x, waits]

theorem voided (h : r.ListsFalse) : r.voidPending.ListsFalse := by
  refine h.mapped _ (fun x => ?_) fun x _ => ?_
  · split <;> rfl
  · split
    · next waits => simp [waits]
    · rfl

/-- A lane PENDING is not listed. -/
theorem unlisted (h : r.ListsFalse) (nodup : r.lanes.Nodup) {l : LaneIx} (pending : isPending r l = true) : l ∉ r.falseList := fun listed => by
  obtain ⟨x, hx, rfl, fell⟩ := (h.2 l).mp listed
  rw [(isPending_of_mem nodup hx).mp pending] at fell
  cases fell

/-- A lane PENDING that is given FALSE takes its place in the list (R136, R139, R142). -/
theorem fallen (h : r.ListsFalse) (nodup : r.lanes.Nodup) {l : LaneIx} (pending : isPending r l = true) (onset : Time) (rt : Option Int)
    (f : LaneFlags) : (r.giveFalse l onset rt f).ListsFalse := by
  have fresh := h.unlisted nodup pending
  obtain ⟨x, hx, here⟩ : ∃ x ∈ r.results, x.lane = l := by
    cases hr : r.result l with
    | none => simp [isPending, hr] at pending
    | some x => exact ⟨x, List.mem_of_find?_eq_some hr, by simpa using List.find?_some hr⟩
  refine ⟨?_, fun k => ?_⟩
  · obtain ⟨before, after, held, inserted⟩ :=
      insertFalse_split (r.giveFalse l onset rt f).results l onset r.falseList
    have list : (r.giveFalse l onset rt f).falseList = before ++ l :: after := inserted
    rw [list, List.nodup_middle, ← held]
    exact List.nodup_cons.mpr ⟨fresh, h.1⟩
  · have results : (∃ y ∈ (r.giveFalse l onset rt f).results, y.lane = k ∧ y.verdict = .falseStart)
        ↔ k = l ∨ ∃ y ∈ r.results, y.lane = k ∧ y.verdict = .falseStart := by
      show (∃ y ∈ r.results.map _, _) ↔ _
      simp only [List.mem_map, exists_exists_and_eq_and]
      constructor
      · rintro ⟨y, hy, lane, fell⟩
        split at lane
        · next hl => exact .inl (lane.symm.trans hl)
        · next hl => exact .inr ⟨y, hy, lane, by rwa [if_neg hl] at fell⟩
      · rintro (rfl | ⟨y, hy, lane, fell⟩)
        · exact ⟨x, hx, by simp [here]⟩
        · exact ⟨y, hy, by split <;> exact ⟨lane, by simp [fell]⟩⟩
    exact mem_insertFalse.trans (or_comm.trans (or_congr_right (h.2 k))) |>.trans results.symm

/-- Whatever the change, the list stays that of the FALSE lanes. -/
theorem change (h : r.ListsFalse) (nodup : r.lanes.Nodup) (c : r.Change r') : r'.ListsFalse := by
  cases c with
  | flags l | baseline l | ruled l => exact h.onLane l (fun _ => rfl) fun _ _ _ => Iff.rfl
  | unsure _ _ pending | fair _ _ _ _ pending | noStart _ pending => exact h.judged nodup pending (fun _ => rfl) fun _ => nofun
  | falseStart l onset rt f pending => exact h.fallen nodup pending onset rt f
  | void => exact h.voided
  | set | started | decided | aborted | recalled | recallShot => exact h

theorem changes (h : r.ListsFalse) (nodup : r.lanes.Nodup) (c : r.Changes r') : r'.ListsFalse := by
  induction c with
  | refl => exact h
  | tail before last ih =>
    have lanes := Record.Changes.header before
    exact ih.change (lanes.2 ▸ nodup) last

/-- At its creation a record has no FALSE lane and an empty list (R82). -/
theorem created (id heat number : Nat) (lanes : List LaneIx) : (newRecord id heat number lanes).ListsFalse :=
  ⟨List.nodup_nil, fun l => by simp [newRecord, newResult]⟩

end Record.ListsFalse

/-- Settles O56: a command changes the records in place, each by reports that keep its list, or creates one without a FALSE lane. -/
theorem falseListHoldsFalseLanes : Obligations.FalseListHoldsFalseLanes := by
  have closed : RecordsClosed fun s => HistoryInv s ∧ FalseListInv s := by
    constructor
    case kept =>
      rintro s t ⟨hi, lists⟩ k
      obtain ⟨_, f, changes, history⟩ := k hi
      refine ⟨hi.kept k, (falseListInv_iff t).mpr ?_⟩
      rw [history]
      refine List.forall_mem_map.mpr fun r hr => ?_
      exact Record.ListsFalse.changes (lists r hr) ((hi.lanes r hr).imp ne_of_lt) (changes r hr)
    case create =>
      rintro s heat lanes ⟨hi, lists⟩ ho ascending
      refine ⟨hi.createRecord heat ho ascending, (falseListInv_iff _).mpr fun r hr => ?_⟩
      rcases List.mem_append.mp hr with held | new
      · exact lists r ((roomFor_sublist s.seq.history).subset held)
      · rw [List.mem_singleton.mp new]
        exact .created _ _ _ _
    case reset => exact fun pins held pending => ⟨.afterReset pins held pending, nofun⟩
  exact fun s t hi lists e => (closed.step ⟨hi, lists⟩ e).2

end Sys2Proof.Machine
end

section
/-! PROOFS. RECALL: the pulse time recorded once, and the manual pulse (R12, R13, R15, R148). -/

namespace Sys2Proof.Machine

/-- A change leaves a history in order as it is exactly when it leaves its record (R83, R86). -/
theorem changedHistory_eq_iff {s : State} {r : Record} (h : HistoryInv s) (hm : r ∈ s.seq.history) (f : Record → Record) :
    (s.seq.history.map fun x => if x.id = r.id then f x else x) = s.seq.history ↔ f r = r := by
  rw [map_eq_self]
  constructor
  · intro same
    simpa using same r hm
  · intro same x hx
    split
    · next hid =>
      obtain rfl := h.eq_of_id hx hm hid
      exact same
    · rfl

/-- A record with its recall pulse time taken, when it has none. -/
def Record.takeRecall (now : Time) (r : Record) : Record := { r with recallPulse := some (r.recallPulse.getD now) }

theorem Record.takeRecall_eq_self (now : Time) (r : Record) : r.takeRecall now = r ↔ r.recallPulse ≠ none := by
  unfold Record.takeRecall
  cases h : r.recallPulse with
  | none =>
    refine ⟨fun same => ?_, fun absent => absurd rfl absent⟩
    rw [← same] at h
    cases h
  | some t => rw [Option.getD_some, ← h]; exact ⟨fun _ => by rw [h]; simp, fun _ => rfl⟩

theorem recallServe_record {s : State} {r : Record} (h : recallRecord s = some r) :
    recallServe [] s = accepted (pulseRequest true r.id (changeRecord r.id (Record.takeRecall s.clock) s)) [] := by
  simp only [recallServe, h]
  refine congrArg (fun f => accepted (pulseRequest true r.id (changeRecord r.id f s)) []) (funext fun x => ?_)
  unfold Record.takeRecall
  cases x.recallPulse <;> rfl

theorem recallServe_none {s : State} (h : recallRecord s = none) : recallServe [] s = refuse s .state := by
  simp only [recallServe, h]

/-- A recalled record is the open one, RUNNING, or with none open the newest, DECIDED (R148). -/
theorem recallRecord_some {s : State} {r : Record}
    (h : (openRecord s = some r ∧ r.state = .running)
      ∨ (openRecord s = none ∧ s.seq.history.getLast? = some r ∧ r.state = .decided)) :
    recallRecord s = some r ∧ r ∈ s.seq.history := by
  rcases h with ⟨ho, running⟩ | ⟨ho, newest, decided⟩
  · exact ⟨by simp [recallRecord, ho, running], openRecord_mem ho⟩
  · exact ⟨by simp [recallRecord, ho, newestRecord, newest, decided], List.mem_of_getLast? newest⟩

/-- In MARKS and SET, and in IDLE without a newest record DECIDED, there is no record to recall (R148). -/
theorem recallRecord_none {s : State}
    (h : lineState s = .marks ∨ lineState s = .set
      ∨ (lineState s = .idle ∧ ∀ rec, s.seq.history.getLast? = some rec → rec.state ≠ .decided)) :
    recallRecord s = none := by
  rcases lineState_cases s with ⟨ho, idle⟩ | ⟨r, ho, cases⟩
  · have undecided : ∀ rec, s.seq.history.getLast? = some rec → rec.state ≠ .decided := by simpa [idle] using h
    cases newest : s.seq.history.getLast? with
    | none => simp [recallRecord, ho, newestRecord, newest]
    | some rec => simp [recallRecord, ho, newestRecord, newest, undecided rec newest]
  · have waiting : r.state ≠ .running := by
      rcases cases with ⟨hr, _⟩ | ⟨hr, _⟩ | ⟨_, running⟩
      · simp [hr]
      · simp [hr]
      · simp [running] at h
    simp [recallRecord, ho, waiting]

/-- Settles O22: the record recalled takes the time when it has none, which is a change to it, and the driver takes a manual request; with
no such record RECALL is refused. -/
theorem recallRequestPulses : Obligations.RecallRequestPulses := by
  refine ⟨fun s r rec hs hp hi h => ?_, fun s r hs hp h => ?_⟩
  · obtain ⟨recalled, held⟩ := recallRecord_some h
    have same : (s.seq.history.map fun x => if x.id = rec.id then x.takeRecall s.clock else x) = s.seq.history ↔ rec.recallPulse ≠ none :=
      (changedHistory_eq_iff hi held _).trans (rec.takeRecall_eq_self s.clock)
    have taken := recallServe_record recalled
    simp only [pulseRequest, place, changeRecord_eq, same] at taken
    refine (hs.accepted .recallRequest rfl hp rfl (by decide) taken rfl).trans ?_
    by_cases absent : rec.recallPulse = none <;> simp [absent, Record.takeRecall, Kind.code]
  · exact hs.refused .recallRequest rfl hp rfl (by decide) (recallServe_none (recallRecord_none h))

end Sys2Proof.Machine
end

section
/-! PROOFS. A sound request frame taken byte by byte, by a receiver that is ready for it (R167, R168, R170). -/

namespace Sys2Proof.Machine

theorem hostBytes_append (xs ys : List HostByte) (s : State) : hostBytes (xs ++ ys) s = hostBytes ys (hostBytes xs s) := List.foldl_append ..

theorem hostError_hostByteOf (d : Byte) : hostError (hostByteOf d).toRxByte = false := by simp [hostError, hostByteOf]

/-- With DE released the receiver takes every byte begun while it was (R167). -/
theorem hostByte_taken {s : State} (d : Byte) (de : deAsserted s = false) : hostByte (hostByteOf d) s = takeHostByte (hostByteOf d) s := by
  rw [hostByte, if_neg]
  simp [notTaken, de, hostByteOf]

/-- A byte of a frame whose address has been taken is placed in it (R170). -/
theorem hostByte_placed {s : State} {frame : List Byte} (d : Byte) (de : deAsserted s = false) (rx : s.host.rx = .receive frame)
    (held : frame ≠ []) : hostByte (hostByteOf d) s = receivePlace (frame ++ [d]) s := by
  rw [hostByte_taken d de, takeHostByte, rx]
  simp only [receiveByte, hostError_hostByteOf]
  cases frame with
  | nil => exact absurd rfl held
  | cons a rest => rfl

/-- The CRC that a complete frame ends with agrees with the bytes before it (R168). -/
def FrameSound (frame : List Byte) : Prop :=
  frame.drop (frameEnd frame - 2) = crcBytes (crc16 (frame.take (frameEnd frame - 2)))

/-- The end of a sound frame leaves the receiver in HUNT, whatever it had received. -/
theorem frameEnded_setRx {frame : List Byte} (sound : FrameSound frame) (x : RxState) (s : State) :
    frameEnded frame (setRx x s) = frameEnded frame s := by
  simp only [frameEnded, if_pos (show _ = _ from sound)]
  rfl

/-- The bytes of a sound frame that are still to come complete it. -/
theorem hostBytes_complete {rest frame : List Byte} {s : State} (de : deAsserted s = false) (rx : s.host.rx = .receive frame)
    (held : frame ≠ []) (more : rest ≠ []) (short : ((frame ++ rest).getD 3 0#8).toNat ≤ 200)
    (whole : (frame ++ rest).length = frameEnd (frame ++ rest)) (sound : FrameSound (frame ++ rest)) :
    hostBytes (rest.map hostByteOf) s = frameEnded (frame ++ rest) s := by
  induction rest generalizing frame s with
  | nil => exact absurd rfl more
  | cons d rest ih =>
    have first : hostBytes ((d :: rest).map hostByteOf) s = hostBytes (rest.map hostByteOf) (receivePlace (frame ++ [d]) s) := by
      rw [← hostByte_placed d de rx held]; rfl
    have split : frame ++ d :: rest = (frame ++ [d]) ++ rest := by simp
    rw [split] at short whole sound ⊢
    rw [first]
    by_cases last : rest = []
    · subst last
      rw [List.append_nil] at short whole sound ⊢
      have long : 6 ≤ (frame ++ [d]).length := by rw [whole, frameEnd]; omega
      rw [receivePlace, if_neg (by omega), if_pos ⟨by omega, whole⟩]
      rfl
    · have before : (frame ++ [d]).length < ((frame ++ [d]) ++ rest).length := by
        have := List.length_pos_iff.mpr last
        rw [List.length_append (as := frame ++ [d])]
        omega
      have lengthByte : 4 ≤ (frame ++ [d]).length → ((frame ++ [d]) ++ rest).getD 3 0#8 = (frame ++ [d]).getD 3 0#8 := fun four =>
        List.getD_append _ _ _ _ four
      have placed : receivePlace (frame ++ [d]) s = setRx (.receive (frame ++ [d])) s := by
        rw [receivePlace, if_neg, if_neg]
        · rintro ⟨four, ended⟩
          rw [frameEnd, lengthByte (by omega), ← frameEnd, ← ended] at whole
          omega
        · rintro ⟨four, long⟩
          rw [lengthByte (by omega)] at short
          omega
      rw [placed, ih (s := setRx (.receive (frame ++ [d])) s) de rfl (by simp) last short whole sound, frameEnded_setRx sound]

/-- The address, the tag, the kind, the length and the payload of a request: the bytes that its CRC covers. -/
def requestBody (code : Byte) (r : Request) : List Byte := r.address :: r.tag :: code :: BitVec.ofNat 8 r.payload.length :: r.payload

theorem requestBytes_eq (code : Byte) (r : Request) :
    requestBytes code r = 0xC3#8 :: r.address :: ((requestBody code r).tail ++ crcBytes (crc16 (requestBody code r))) := rfl

section Body

variable {code : Byte} {r : Request} (fits : r.payload.length ≤ 200)
include fits

theorem requestBody_frameEnd (crc : List Byte) : frameEnd (requestBody code r ++ crc) - 2 = (requestBody code r).length := by
  simp only [frameEnd, requestBody, List.cons_append, List.getD_cons_succ, List.getD_cons_zero, BitVec.toNat_ofNat, List.length_cons]
  omega

theorem requestBody_sound : FrameSound (requestBody code r ++ crcBytes (crc16 (requestBody code r))) := by
  rw [FrameSound, requestBody_frameEnd fits, List.drop_left, List.take_left]

/-- The end of a request's frame is the arrival of the request (R168, R173). -/
theorem frameEnded_request (s : State) : frameEnded (requestBody code r ++ crcBytes (crc16 (requestBody code r))) s =
    requestTaken r.address r.tag code r.payload s := by
  have sound := requestBody_sound (code := code) fits
  simp only [frameEnded, if_pos (show _ = _ from sound)]
  rw [requestBody_frameEnd fits, List.take_left]
  rfl

/-- The bytes of a request, one by one, do what the request does (R170, R173). -/
theorem hostBytes_request {s : State} (takes : Takes s r) :
    hostBytes ((requestBytes code r).map hostByteOf) s = requestArrives code r s := by
  obtain ⟨_, rx, de, address, _, _⟩ := takes
  have addressed : addressed s r.address = true := by simp [addressed, address]
  have ready : readyToReceive s = true := by simp [readyToReceive, rx, de]
  have sync : hostByte (hostByteOf 0xC3#8) s = setRx (.receive []) s := by
    rw [hostByte_taken _ de, takeHostByte, rx]
    exact if_pos ⟨rfl, hostError_hostByteOf _⟩
  have begun : hostByte (hostByteOf r.address) (setRx (.receive []) s) = setRx (.receive [r.address]) s := by
    rw [hostByte_taken _ (s := setRx (.receive []) s) de, takeHostByte]
    simp only [setRx_host, receiveByte, hostError_hostByteOf]
    exact if_pos addressed
  have split : [r.address] ++ ((requestBody code r).tail ++ crcBytes (crc16 (requestBody code r))) =
      requestBody code r ++ crcBytes (crc16 (requestBody code r)) := rfl
  have bytes : hostBytes ((requestBytes code r).map hostByteOf) s =
      hostBytes (((requestBody code r).tail ++ crcBytes (crc16 (requestBody code r))).map hostByteOf) (setRx (.receive [r.address]) s) := by
    rw [← begun, ← sync, requestBytes_eq]; rfl
  have whole := requestBody_frameEnd (code := code) fits (crcBytes (crc16 (requestBody code r)))
  have sound := requestBody_sound (code := code) fits
  rw [bytes, hostBytes_complete (s := setRx (.receive [r.address]) s) de rfl (by simp) (by simp [requestBody]) ?_ ?_ (split ▸ sound), split,
    frameEnded_setRx sound, frameEnded_request fits, requestArrives, if_pos ⟨ready, addressed, fits⟩]
  · rw [split]
    simp only [requestBody, List.cons_append, List.getD_cons_succ, List.getD_cons_zero, BitVec.toNat_ofNat]
    omega
  · rw [split, List.length_append, ← whole]
    simp only [frameEnd, crcBytes, List.length_cons, List.length_nil]
    omega

end Body

end Sys2Proof.Machine
end

section
/-! PROOFS. Verdicts and the return of an attempt id (R83, R85, R134): the bytes of one command may open and close 65 534 attempts, after
which the counter gives out the id of a record that the station held before it. -/

namespace Sys2Proof.Machine

/-! ### The reset pin at MARKS and STAND -/

theorem createRecord_resetHeld (heat : Nat) (lanes : List LaneIx) (s : State) : (createRecord heat lanes s).resetHeld = s.resetHeld := by
  simp only [createRecord, removeOldest_eq]

theorem marksAccepted_resetHeld (heat : Nat) (lanes : List LaneIx) (s : State) :
    (marksAccepted heat lanes s).resetHeld = s.resetHeld := by
  have failed : (forLanes lanes (fun l => failZero l 3#32) (createRecord heat lanes s)).resetHeld = s.resetHeld :=
    forLanes_induct (P := fun t => t.resetHeld = s.resetHeld) lanes (createRecord_resetHeld heat lanes s) fun l _ t ht => by
      unfold failZero; split <;> exact ht
  rw [marksAccepted_eq]
  generalize forLanes lanes (fun l => failZero l 3#32) (createRecord heat lanes s) = u at failed ⊢
  have lamps := lampsOff_writes allPorts (releaseRings u)
  refine forLanes_induct (P := fun t => t.resetHeld = s.resetHeld) lanes ?_ fun l _ t ht => ?_
  · rw [State.mapDetectors_resetHeld, lamps]
    exact failed
  · unfold marksLink
    split
    · exact ht
    · exact (OnlyRecords.streamEnded l t).resetHeld.trans ht

theorem standClose_resetHeld (r : Record) (s : State) : (standClose r s).resetHeld = s.resetHeld := by
  have writes := WritesReports.forLanes .standDetector r.lanes s
  have reported : (forLanes r.lanes standDetector s).resetHeld = s.resetHeld := (congrArg State.resetHeld writes :)
  simpa only [standClose_eq, closeAttempt, place, State.mapRings, changeRecord_resetHeld, State.mapDetectors] using reported

/-- MARKS and STAND do not move the reset pin. -/
theorem serveKind_resetHeld {k : Kind} (h : k = .marks ∨ k = .stand) (payload : List Byte) (s : State) :
    (serveKind k payload s).state.resetHeld = s.resetHeld := by
  rcases h with rfl | rfl
  · show (marksRequest payload s).state.resetHeld = _
    unfold marksRequest
    split
    · split
      · rfl
      · split
        · rfl
        · split
          · rfl
          · exact marksAccepted_resetHeld _ _ s
    · rfl
  · show (standRequest payload s).state.resetHeld = _
    unfold standRequest
    split
    · split
      · exact standClose_resetHeld _ s
      · rfl
    · rfl
    · rfl

/-! ### A request in its bytes -/

/-- A request to station 5. -/
def toStation (payload : List Byte) : Request := { address := 5#8, tag := 0#8, payload := payload }

/-- The bytes of a request to station 5. -/
def stationBytes (k : Kind) (payload : List Byte) : List HostByte := (requestBytes k.code (toStation payload)).map hostByteOf

/-- Station 5 serves the requests that come to it. -/
def StationServes (s : State) : Prop := ∀ payload, Serves s (toStation payload)

/-- The next state of a request that a ready station answers is that of its bytes, and the station is ready for the next. -/
theorem StationServes.bytes {s t : State} {c : Instr} {k : Kind} {payload reply : List Byte} {st : Status} (h : StationServes s)
    (hk : k = .marks ∨ k = .stand) (hc : requestOf c = some (k.code, toStation payload)) (hl : payload.length = k.length)
    (e : exec c s = .next t) (host : t.host = answered s (toStation payload) k.code st reply) (store : t.store = s.store) :
    hostBytes (stationBytes k payload) s = t ∧ StationServes t := by
  have fits : payload.length ≤ 200 := hl ▸ k.length_le
  have served := exec_request_served hc (h payload).1 hl (by rcases hk with rfl | rfl <;> decide) (.inl (h payload).2)
  have arrived := exec_request hc s
  rw [live_running _ (h payload).1.1, e] at arrived
  rw [e] at served
  have pin : t.resetHeld = s.resetHeld := by
    rw [Host.Outcome.next.inj served]
    exact serveKind_resetHeld hk payload s
  refine ⟨(hostBytes_request (code := k.code) (r := toStation payload) fits (h payload).1).trans
    (Host.Outcome.next.inj arrived).symm, fun p => ?_⟩
  obtain ⟨⟨running, rx, _, address, own, restart⟩, loaded⟩ := h p
  refine ⟨⟨pin.trans running, ?_, ?_, ?_, own, ?_⟩, store ▸ loaded⟩
  · rw [host]; exact rx
  · rw [deAsserted, host]; rfl
  · rw [host]; exact address
  · rw [host]; exact restart

/-! ### One attempt after another -/

/-- Station 5 between two attempts, its counter at this id, and lane 1 with a port. -/
structure BetweenAttempts (id : Nat) (s : State) : Prop where
  serves  : StationServes s
  history : HistoryInv s
  nextId  : s.seq.nextId = id
  port    : (s.lane 0).port ≠ none
  idle    : lineState s = .idle

/-- Station 5 in MARKS of the attempt with this id, on lane 1 alone. -/
structure InMarks (id : Nat) (s : State) : Prop where
  serves  : StationServes s
  history : HistoryInv s
  nextId  : s.seq.nextId = nextAttemptId id
  port    : (s.lane 0).port ≠ none
  opened  : ∃ rec, openRecord s = some rec ∧ rec.state = .marks ∧ rec.id = id ∧ rec.lanes = [0]

/-- MARKS of heat 1 on lane 1. -/
def marksBytes : List HostByte := stationBytes .marks [0#8, 1#8, 0#8, 2#8]

/-- STAND. -/
def standBytes : List HostByte := stationBytes .stand []

theorem HistoryInv.exec {c : Instr} {s t : State} (h : HistoryInv s) (e : exec c s = .next t) : HistoryInv t :=
  RecordsClosed.exec ⟨HistoryInv.kept, fun heat _ h => h.createRecord heat, HistoryInv.afterReset⟩ h e

/-- An open record that stands last is the open record. -/
theorem HistoryInv.openRecord_last {s : State} {pre : List Record} {r : Record} (h : HistoryInv s) (e : s.seq.history = pre ++ [r])
    (ho : r.isOpen = true) : openRecord s = some r := by
  have closed : ∀ x ∈ pre, x.isOpen = false := by
    have := h.closed
    rwa [e, List.dropLast_concat] at this
  rw [openRecord, e, List.find?_append, List.find?_eq_none.mpr fun x hx => by simp [closed x hx]]
  simp [ho]

theorem nextAttemptId_eq {id : Nat} (h : id ≤ 65535) : nextAttemptId id = if id = 65535 then 1 else id + 1 := by
  unfold nextAttemptId; split <;> split <;> omega

theorem BetweenAttempts.marks {id : Nat} {s : State} (h : BetweenAttempts id s) : InMarks id (hostBytes marksBytes s) := by
  obtain ⟨t, rec, e, history, recId, -, state, lanes, -, -, -, -, -, -, -, nextId, -, -, -, -, -, -, -, -, -, -, -, -, -, laneMap, -, -,
    -, store, host⟩ := marksOpensAttempt.2 s (toStation [0#8, 1#8, 0#8, 2#8]) 1#16 2#16 [0] (h.serves _) rfl (by decide) (by decide)
      (by decide) (by decide) (by decide) (by simpa using h.port) h.idle h.history
  obtain ⟨bytes, serves⟩ := h.serves.bytes (.inl rfl) rfl rfl e host store
  have inOrder := h.history.exec e
  have opened : rec.isOpen = true := by simp [Record.isOpen, state]
  rw [marksBytes, bytes]
  refine ⟨serves, inOrder, ?_, ?_, rec, inOrder.openRecord_last history opened, state, recId.trans h.nextId, lanes⟩
  · rw [nextId, ← nextAttemptId_eq h.history.next.2, h.nextId]
  · rw [State.lane, laneMap]; exact h.port

theorem InMarks.stand {id : Nat} {s : State} (h : InMarks id s) : BetweenAttempts (nextAttemptId id) (hostBytes standBytes s) := by
  obtain ⟨rec, opened, state, -, -⟩ := h.opened
  obtain ⟨t, rec', e, -, -, -, -, -, idle, -, -, -, -, -, -, -, nextId, -, -, -, -, laneMap, -, -, -, -, store, -, -, -, host⟩ :=
    standAborts.1 s (toStation []) rec (h.serves _) rfl opened (.inl state) h.history
  obtain ⟨bytes, serves⟩ := h.serves.bytes (.inr rfl) rfl rfl e host store
  rw [standBytes, bytes]
  refine ⟨serves, h.history.exec e, nextId.trans h.nextId, ?_, idle⟩
  rw [State.lane, laneMap]; exact h.port

/-- The bytes of this many attempts, each opened by MARKS and closed by STAND. -/
def attemptBytes : Nat → List HostByte
  | 0 => []
  | n + 1 => attemptBytes n ++ (marksBytes ++ standBytes)

/-- Each attempt takes the counter one id on (R83). -/
theorem BetweenAttempts.attempts {id : Nat} {s : State} (h : BetweenAttempts id s) (n : Nat) :
    BetweenAttempts (nextAttemptId^[n] id) (hostBytes (attemptBytes n) s) := by
  induction n with
  | zero => exact h
  | succ n ih =>
    rw [attemptBytes, hostBytes_append, hostBytes_append, Function.iterate_succ_apply']
    exact ih.marks.stand

theorem nextAttemptId_iterate (n : Nat) (h : 2 + n ≤ 65535) : nextAttemptId^[n] 2 = 2 + n := by
  induction n with
  | zero => rfl
  | succ n ih => rw [Function.iterate_succ_apply', ih (by omega), nextAttemptId, if_pos (by omega)]; omega

/-- From 2 the counter comes to 1 in 65 534 attempts (R83). -/
theorem nextAttemptId_returns : nextAttemptId^[65534] 2 = 1 := by
  rw [Function.iterate_succ_apply', nextAttemptId_iterate 65533 (by omega)]
  rfl

/-! ### A record whose id is given out again -/

/-- Attempt 1, decided: lane 2 started fair, 100 ms after the shot. -/
def fairRecord : Record :=
  { newRecord 1 1 1 [1] with
    state := .decided, t0 := some 0#32, results := [{ newResult 1 with verdict := .fair, rt := some 1000, onset := some 1000#32 }] }

/-- Station 5, its load ended, with that record in its history and these commands to come. -/
def fairStation (commands : List Instr) : State :=
  { State.reset with
    started := true, host := { hostReset State.reset.pins.straps with address := some 5 }, store := { storeReset with state := .loaded },
    seq := { sequencerReset with history := [fairRecord], nextId := 2 }, pending := commands }

theorem fairStation_history (commands : List Instr) : HistoryInv (fairStation commands) := by
  constructor <;> simp [fairStation, fairRecord, newRecord, newResult, ChainedTo, nextAttemptId, Record.lanes]

theorem fairStation_between : BetweenAttempts 2 (fairStation []) where
  serves  := fun _ => ⟨⟨rfl, rfl, rfl, rfl, (by decide : 5#8 ≠ 31#8), rfl⟩, nofun⟩
  history := fairStation_history []
  nextId  := rfl
  port    := by decide
  idle    := rfl

/-- The bytes of 65 534 attempts, and of MARKS once more. -/
def idsGivenOut : List HostByte := attemptBytes 65534 ++ marksBytes

theorem fairStation_step : step (fairStation [.requestFrameDropped idsGivenOut]) = .next (hostBytes idsGivenOut (fairStation [])) := rfl

/-- Refutes O59: in one command of so many bytes the record of attempt 1 leaves the history and the counter comes round, so that the newest
record has id 1 again, and other lanes. -/
theorem not_verdictsAreFinal : ¬ Obligations.VerdictsAreFinal := by
  intro final
  have last : InMarks 1 (hostBytes idsGivenOut (fairStation [])) := by
    rw [idsGivenOut, hostBytes_append, ← nextAttemptId_returns]
    exact (fairStation_between.attempts 65534).marks
  obtain ⟨rec, opened, -, id, lanes⟩ := last.opened
  obtain ⟨y, held, lane, -⟩ := final _ _ (fairStation_history _) fairStation_step fairRecord (by simp [fairStation]) rec
    (openRecord_mem opened) id _ (List.mem_singleton_self _) (by simp)
  have named : y.lane ∈ rec.lanes := List.mem_map_of_mem held
  rw [lane, lanes] at named
  exact absurd named (by decide)

end Sys2Proof.Machine
end

section
/-! PROOFS. TRACE: what is refused, the entries returned and the failures reported, and the shot position (R67, R159 to R163, R165). -/

namespace Sys2Proof.Machine

/-! ### The entries held, by position (R68) -/

/-- The entry at a position, with its ring index. -/
def Ring.entryAt (r : Ring) (p : Nat) : Option (Nat × Slot) := (r.slot (r.indexAt p)).map fun w => (r.indexAt p, w)

theorem Ring.held_eq (r : Ring) : r.held = (List.range r.count).filterMap r.entryAt := rfl

theorem Ring.entryAt_some {r : Ring} {p i : Nat} {w : Slot} (h : r.entryAt p = some (i, w)) : r.slots[r.indexAt p]? = some w := by
  obtain ⟨v, hv, e⟩ := Option.map_eq_some_iff.mp h
  cases e
  exact hv

namespace Ring.Placed

variable {r : Ring}

theorem indexAt_lt (h : r.Placed) {p : Nat} (hp : p < r.count) : r.indexAt p < r.slots.length := by
  obtain ⟨count, size, index, filled⟩ := h
  rw [← count, Ring.indexAt, ringSize]
  by_cases full : r.count < 2048
  · rw [filled full]; omega
  · omega

/-- Every position below the count has its entry: none is passed over. -/
theorem held_map_some (h : r.Placed) : r.held.map some = (List.range r.count).map r.entryAt := by
  rw [Ring.held_eq, List.map_filterMap]
  refine List.filterMap_eq_map_iff_forall_eq_some.mpr fun p hp => ?_
  have written := h.indexAt_lt (List.mem_range.mp hp)
  rw [Ring.entryAt, Ring.slot, List.getElem?_eq_getElem written]
  rfl

theorem held_length (h : r.Placed) : r.held.length = r.count := by
  simpa using congrArg List.length h.held_map_some

theorem held_getElem? (h : r.Placed) {p : Nat} (hp : p < r.count) : r.held[p]? = r.entryAt p := by
  have at_p := congrArg (fun entries => entries[p]?) h.held_map_some
  simp only [List.getElem?_map, List.getElem?_range hp, Option.map_some] at at_p
  cases e : r.held[p]? with
  | none => rw [e] at at_p; cases at_p
  | some w => rw [e] at at_p; exact Option.some.inj at_p

/-- The entries from a position on, at most so many, are those at the positions from there on. -/
theorem held_drop_take (h : r.Placed) (first n : Nat) :
    (r.held.drop first).take n = ((List.range (min n (r.count - first))).map (first + ·)).filterMap r.entryAt := by
  have positions : ((List.range r.count).drop first).take n = (List.range (min n (r.count - first))).map (first + ·) :=
    List.ext_getElem (by simp) fun i _ _ => by simp
  have entries : ((r.held.drop first).take n).map some = (((List.range r.count).drop first).take n).map r.entryAt := by
    rw [List.map_take, List.map_drop, h.held_map_some, List.map_take, List.map_drop]
  rw [← positions]
  calc (r.held.drop first).take n
      = (((r.held.drop first).take n).map some).filterMap id := by simp
    _ = (((List.range r.count).drop first).take n).filterMap r.entryAt := by rw [entries, List.filterMap_map]; rfl

end Ring.Placed

/-! ### CHECK_FAULT for each failed entry read (R67, R165) -/

/-- The entry at a position has been written and its check fails. -/
def Ring.failsAt (r : Ring) (p : Nat) : Bool := r.slots[r.indexAt p]?.any fun w => !w.intact

/-- The event of a failed entry at ring index `i` of lane `l`, whose ring attempt `id` froze. -/
def faultEvent (s : State) (l : LaneIx) (id i : Nat) : Event :=
  { kind := .checkFault, time := s.clock, lane := some l, attempt := id, value := BitVec.ofNat 32 i }

theorem checkFault_frozen {s : State} {l : LaneIx} {id : Nat} (frozen : (s.ring l).frozenBy = some id) (i : Nat) :
    checkFault l i s = { s with events := arrive s.line.attnMode (faultEvent s l id i) s.events } := by
  rw [checkFault, frozen]
  rfl

/-- The failed entries of a frozen ring each place their event, and change nothing else. -/
theorem traceFaults_frozen {s : State} {l : LaneIx} {id : Nat} (frozen : (s.ring l).frozenBy = some id) (read : List (Nat × Slot)) :
    traceFaults l read s = { s with
      events := arriveAll s.line.attnMode ((read.filter fun w => !w.2.intact).map fun w => faultEvent s l id w.1) s.events } := by
  unfold traceFaults
  generalize (read.filter fun w => !w.2.intact) = failed
  induction failed generalizing s with
  | nil => rfl
  | cons w failed ih =>
    rw [List.foldl_cons, checkFault_frozen frozen]
    exact ih (s := { s with events := arrive s.line.attnMode (faultEvent s l id w.1) s.events }) frozen

/-- The ring indices of the failed entries among those at some positions. -/
theorem Ring.failed_indices (r : Ring) (ps : List Nat) :
    ((ps.filterMap r.entryAt).filter fun w => !w.2.intact).map Prod.fst = (ps.filter r.failsAt).map r.indexAt := by
  induction ps with
  | nil => rfl
  | cons p ps ih =>
    cases written : r.slots[r.indexAt p]? with
    | none => simpa [List.filter_cons, Ring.entryAt, Ring.failsAt, Ring.slot, written] using ih
    | some w => cases agrees : w.intact <;> simpa [List.filter_cons, Ring.entryAt, Ring.failsAt, Ring.slot, written, agrees] using ih

/-- The entries at some positions of a frozen ring read: their failures arrive in the order of the positions. -/
theorem traceFaults_positions {s : State} {l : LaneIx} {id : Nat} (frozen : (s.ring l).frozenBy = some id) (ps : List Nat) :
    traceFaults l (ps.filterMap (s.ring l).entryAt) s = { s with
      events := (ps.filter (s.ring l).failsAt).foldl
        (fun q p => arrive s.line.attnMode (faultEvent s l id ((s.ring l).indexAt p)) q) s.events } := by
  have events := congrArg (List.map (faultEvent s l id)) ((s.ring l).failed_indices ps)
  simp only [List.map_map] at events
  rw [traceFaults_frozen frozen]
  refine congrArg (fun q => { s with events := q }) ?_
  calc arriveAll s.line.attnMode _ s.events
      = arriveAll s.line.attnMode ((ps.filter (s.ring l).failsAt).map (faultEvent s l id ∘ (s.ring l).indexAt)) s.events :=
        congrArg (arriveAll s.line.attnMode · s.events) events
    _ = _ := List.foldl_map

/-! ### The shot position (R162) -/

/-- How far from T0 an entry was committed, to either side. -/
def shotDistance (t0 : Time) (w : Slot) : Nat := (tdiff w.entry.time t0).natAbs

/-- The entry at position `p` agrees with its check, at distance `d` from T0; no other that agrees is nearer, and none as near is older. -/
structure IsNearest (t0 : Time) (held : List (Nat × Slot)) (p d : Nat) : Prop where
  agrees : ∃ w, held[p]? = some w ∧ w.2.intact = true ∧ shotDistance t0 w.2 = d
  least  : ∀ q v, held[q]? = some v → v.2.intact = true → d ≤ shotDistance t0 v.2 ∧ (shotDistance t0 v.2 = d → p ≤ q)

/-- What a search over these entries has found: the nearest, or none because no check agrees. -/
def Found (t0 : Time) (held : List (Nat × Slot)) : Option (Nat × Nat) → Prop
  | none => ∀ w ∈ held, w.2.intact = false
  | some (p, d) => IsNearest t0 held p d

theorem getElem?_concat_some {α : Type} {xs : List α} {x y : α} {q : Nat} (h : (xs ++ [x])[q]? = some y) :
    xs[q]? = some y ∨ (q = xs.length ∧ y = x) := by
  grind

section Next

variable {t0 : Time} {held : List (Nat × Slot)} {w : Nat × Slot} {p d : Nat}

/-- An entry as far away or farther leaves the nearest as it is, for it stands after it. -/
theorem IsNearest.farther (nearest : IsNearest t0 held p d) (h : w.2.intact = true → d ≤ shotDistance t0 w.2) :
    IsNearest t0 (held ++ [w]) p d := by
  obtain ⟨⟨x, at_p, agrees, distance⟩, least⟩ := nearest
  have p_lt : p < held.length := (List.getElem?_eq_some_iff.mp at_p).1
  refine ⟨⟨x, by rw [List.getElem?_append_left p_lt, at_p], agrees, distance⟩, fun q v at_q hv => ?_⟩
  rcases getElem?_concat_some at_q with before | ⟨rfl, rfl⟩
  · exact least q v before hv
  · exact ⟨h hv, fun _ => p_lt.le⟩

/-- An entry that agrees, nearer than every one before it that does. -/
theorem IsNearest.next (agrees : w.2.intact = true)
    (h : ∀ v ∈ held, v.2.intact = true → shotDistance t0 w.2 < shotDistance t0 v.2) :
    IsNearest t0 (held ++ [w]) held.length (shotDistance t0 w.2) := by
  refine ⟨⟨w, List.getElem?_concat_length, agrees, rfl⟩, fun q v at_q hv => ?_⟩
  rcases getElem?_concat_some at_q with before | ⟨rfl, rfl⟩
  · have farther := h v (List.mem_of_getElem? before) hv
    exact ⟨farther.le, fun same => absurd same farther.ne'⟩
  · exact ⟨le_rfl, fun _ => le_rfl⟩

theorem IsNearest.le_of_mem (nearest : IsNearest t0 held p d) {v : Nat × Slot} (hv : v ∈ held) (agrees : v.2.intact = true) :
    d ≤ shotDistance t0 v.2 := by
  obtain ⟨q, at_q⟩ := List.mem_iff_getElem?.mp hv
  exact (nearest.least q v at_q agrees).1

theorem Found.failed {best : Option (Nat × Nat)} (found : Found t0 held best) (failed : w.2.intact = false) :
    Found t0 (held ++ [w]) best := by
  rcases best with _ | ⟨p, d⟩
  · exact List.forall_mem_append.mpr ⟨found, List.forall_mem_singleton.mpr failed⟩
  · exact IsNearest.farther found fun agrees => absurd agrees (by simp [failed])

end Next

/-- The search goes past a failed entry, and takes the next when it is the first that agrees or strictly nearer. -/
theorem Found.nearer {t0 : Time} {held : List (Nat × Slot)} {best : Option (Nat × Nat)} (found : Found t0 held best) (w : Nat × Slot) :
    Found t0 (held ++ [w]) (nearer t0 best held.length w.2) := by
  unfold Machine.nearer
  by_cases failed : w.2.intact = false
  · rw [if_pos failed]
    exact found.failed failed
  · have agrees : w.2.intact = true := by simpa using failed
    rw [if_neg failed]
    rcases best with _ | ⟨p, d⟩
    · exact IsNearest.next agrees fun v hv agreed => absurd agreed (by simp [found v hv])
    · simp only
      split
      · next closer => exact IsNearest.next agrees fun v hv agreed => Nat.lt_of_lt_of_le closer (IsNearest.le_of_mem found hv agreed)
      · next farther => exact IsNearest.farther found fun _ => Nat.not_lt.mp farther

theorem Found.nearestFrom {t0 : Time} {before : List (Nat × Slot)} {best : Option (Nat × Nat)} (found : Found t0 before best)
    (rest : List (Nat × Slot)) : Found t0 (before ++ rest) (nearestFrom t0 before.length best rest) := by
  induction rest generalizing before best with
  | nil => simpa [Machine.nearestFrom] using found
  | cons w rest ih => simpa [Machine.nearestFrom] using ih (found.nearer w)

theorem found_nearest (t0 : Time) (held : List (Nat × Slot)) : Found t0 held (nearestFrom t0 0 none held) :=
  Found.nearestFrom (before := []) (best := none) (fun _ hw => absurd hw List.not_mem_nil) held

/-- The shot position is absent exactly when no check agrees. -/
theorem shotPosition_none_iff (t0 : Time) (held : List (Nat × Slot)) :
    shotPosition (some t0) held = none ↔ ∀ w ∈ held, w.2.intact = false := by
  have found := found_nearest t0 held
  rw [shotPosition, Option.map_eq_none_iff]
  cases best : nearestFrom t0 0 none held with
  | none => rw [best] at found; exact iff_of_true rfl found
  | some pd =>
    rw [best] at found
    obtain ⟨w, at_p, agrees, -⟩ := found.agrees
    exact iff_of_false nofun fun noneAgrees => by simp [noneAgrees w (List.mem_of_getElem? at_p)] at agrees

theorem shotPosition_nearest {t0 : Time} {held : List (Nat × Slot)} {p : Nat} (h : shotPosition (some t0) held = some p) :
    ∃ d, IsNearest t0 held p d := by
  have found := found_nearest t0 held
  obtain ⟨⟨q, d⟩, best, rfl⟩ := Option.map_eq_some_iff.mp h
  rw [best] at found
  exact ⟨d, found⟩

/-! ### The bytes of a TRACE reply (R161, R163, section 12.6) -/

theorem slotBytes_failed {w : Slot} (h : w.intact = false) : slotBytes w = [0#8, 0#8, 0#8, 0#8, 0#8, 0#8, 0x10#8] := by
  rw [slotBytes, h]
  rfl

theorem entryFlagsByte_eq (e : Entry) : entryFlagsByte e =
    0#4 ++ BitVec.ofBool e.ovl ++ BitVec.ofBool e.sat ++ BitVec.ofBool e.gap ++ BitVec.ofBool e.stale := by
  unfold entryFlagsByte
  cases e.ovl <;> cases e.sat <;> cases e.gap <;> cases e.stale <;> rfl

theorem slotBytes_agrees {w : Slot} (h : w.intact = true) : slotBytes w = be32 w.entry.time ++ beInt16 w.entry.force
    ++ [0#4 ++ BitVec.ofBool w.entry.ovl ++ BitVec.ofBool w.entry.sat ++ BitVec.ofBool w.entry.gap ++ BitVec.ofBool w.entry.stale] := by
  rw [slotBytes, h, if_pos rfl, entryFlagsByte_eq]

theorem be16_rd16 (h l : Byte) : be16 (rd16 h l) = [h, l] := by
  have value : rd16 h l = h.toNat * 256 + l.toNat := by
    rw [rd16, BitVec.toNat_append, ← Nat.shiftLeft_add_eq_or_of_lt l.isLt, Nat.shiftLeft_eq]
  have high : BitVec.ofNat 8 (rd16 h l / 256) = h := BitVec.eq_of_toNat_eq (by rw [BitVec.toNat_ofNat]; omega)
  have low : BitVec.ofNat 8 (rd16 h l) = l := BitVec.eq_of_toNat_eq (by rw [BitVec.toNat_ofNat]; omega)
  rw [be16, high, low]

theorem traceBytes_eq {a : Byte} {l : LaneIx} (ha : a.toNat = l.val + 1) (id count : Nat) (shot : Option Nat) (fh fl : Byte)
    (returned : List (Nat × Slot)) : traceBytes l id count shot (rd16 fh fl) returned =
      a :: (be16 id ++ be16 count ++ be16 (shot.getD 0xFFFF) ++ [fh, fl] ++ [BitVec.ofNat 8 (returned.map Prod.snd).length]
        ++ (returned.map Prod.snd).flatMap slotBytes) := by
  rw [traceBytes, be8_toNat (n := laneNumber l) ha, be16_rd16, List.length_map, List.flatMap_map]
  simp only [be8, List.cons_append, List.nil_append]

/-! ### The tests of TRACE, in the order of R159 -/

/-- TRACE with a lane, a count or a first position out of its range. -/
theorem traceServe_badValue {a fh fl n : Byte} (s : State)
    (bad : a.toNat = 0 ∨ 10 < a.toNat ∨ n.toNat = 0 ∨ 28 < n.toNat ∨ 2047 < (fh ++ fl).toNat) :
    traceServe [a, fh, fl, n] s = refuse s .badValue := by
  by_cases lane : a.toNat = 0 ∨ 10 < a.toNat
  · simp only [traceServe, laneOfByte_none lane]
  · have hl : a.toNat = (⟨a.toNat - 1, by omega⟩ : LaneIx).val + 1 := by simp only; omega
    simp only [traceServe, laneOfByte_eq hl]
    by_cases count : n.toNat < 1 ∨ 28 < n.toNat
    · rw [if_pos count]
    · have first : 2047 < rd16 fh fl := show 2047 < (fh ++ fl).toNat by omega
      rw [if_neg count, if_pos first]

section InRange

variable {a fh fl n : Byte} {l : LaneIx} {s : State}

/-- TRACE with its operands in range, of a ring that is not frozen. -/
theorem traceServe_notFrozen (ha : a.toNat = l.val + 1) (lower : 1 ≤ n.toNat) (upper : n.toNat ≤ 28) (first : (fh ++ fl).toNat ≤ 2047)
    (free : (s.ring l).frozenBy = none) : traceServe [a, fh, fl, n] s = refuse s .notFrozen := by
  have start : ¬2047 < rd16 fh fl := Nat.not_lt.mpr first
  simp only [traceServe, laneOfByte_eq ha, if_neg (show ¬(n.toNat < 1 ∨ 28 < n.toNat) by omega), if_neg start, free]

/-- TRACE with its operands in range, of a frozen ring: its first position lies below the count, or is 0 of an empty ring. -/
theorem traceServe_frozen (ha : a.toNat = l.val + 1) (lower : 1 ≤ n.toNat) (upper : n.toNat ≤ 28) (first : (fh ++ fl).toNat ≤ 2047)
    {id : Nat} (frozen : (s.ring l).frozenBy = some id) : traceServe [a, fh, fl, n] s =
      if (fh ++ fl).toNat < (s.ring l).count ∨ ((s.ring l).count = 0 ∧ (fh ++ fl).toNat = 0)
      then traceAccepted l id (rd16 fh fl) n.toNat s else refuse s .badValue := by
  have start : ¬2047 < rd16 fh fl := Nat.not_lt.mpr first
  have position : rd16 fh fl = (fh ++ fl).toNat := rfl
  simp only [traceServe, laneOfByte_eq ha, if_neg (show ¬(n.toNat < 1 ∨ 28 < n.toNat) by omega), if_neg start, frozen]
  rw [position, ← ite_not]
  exact if_congr (by omega) rfl rfl

end InRange

/-! ### TRACE accepted (R160 to R163, R165) -/

/-- TRACE of a frozen ring in its effect: which positions are read, and the entries in their bytes. -/
theorem traceAccepted_eq {a fh fl : Byte} {l : LaneIx} (ha : a.toNat = l.val + 1) {s : State} {id : Nat}
    (frozen : (s.ring l).frozenBy = some id) (ok : (s.ring l).Placed) (n : Nat) {entries : List Slot}
    (returned : entries = (((s.ring l).held.drop (rd16 fh fl)).take n).map Prod.snd) : traceAccepted l id (rd16 fh fl) n s =
      accepted
        { s with
          events := ((if (traceShotTime id s).isSome then List.range (s.ring l).count
                      else (List.range entries.length).map (rd16 fh fl + ·)).filter (s.ring l).failsAt).foldl
            (fun q p => arrive s.line.attnMode (faultEvent s l id ((s.ring l).indexAt p)) q) s.events }
        (a :: (be16 id ++ be16 (s.ring l).count ++ be16 ((shotPosition (traceShotTime id s) (s.ring l).held).getD 0xFFFF) ++ [fh, fl]
          ++ [BitVec.ofNat 8 entries.length] ++ entries.flatMap slotBytes)) := by
  have length : entries.length = min n ((s.ring l).count - rd16 fh fl) := by simp [returned, ok.held_length]
  have read : (if (traceShotTime id s).isSome then (s.ring l).held else ((s.ring l).held.drop (rd16 fh fl)).take n) =
      (if (traceShotTime id s).isSome then List.range (s.ring l).count
        else (List.range entries.length).map (rd16 fh fl + ·)).filterMap (s.ring l).entryAt := by
    split
    · exact (s.ring l).held_eq
    · rw [ok.held_drop_take, length]
  rw [traceAccepted, read, traceFaults_positions frozen, traceBytes_eq ha, returned]

/-- The entries returned are those that stand at the positions from the first on. -/
theorem Ring.Placed.returned_slot {r : Ring} (h : r.Placed) {first n i : Nat} {entries : List Slot}
    (returned : entries = ((r.held.drop first).take n).map Prod.snd) (hi : i < entries.length) :
    r.slots[r.indexAt (first + i)]? = some entries[i] := by
  subst returned
  simp only [List.length_map, List.length_take, List.length_drop, h.held_length] at hi
  have at_i : r.entryAt (first + i) = some (r.held[first + i]'(by rw [h.held_length]; omega)) := by
    rw [← h.held_getElem? (by omega), List.getElem?_eq_getElem]
  rw [Ring.entryAt_some at_i]
  simp

/-- Settles O23: the tests of R159 in their order, the effect of an accepted TRACE, the search for the shot position entry by entry, and
the two layouts of an entry. -/
theorem traceReturnsEntries : Obligations.TraceReturnsEntries := by
  refine ⟨fun s r a fh fl n hs hp bad => ?_, fun s r a fh fl n l hs hp ha lower upper first =>
    ⟨fun free => ?_, fun id index t0 frozen ok hindex shot => ?_⟩, fun t0 held => ⟨rfl, shotPosition_none_iff t0 held, fun p hp => ?_⟩,
    fun w => ⟨slotBytes_failed, slotBytes_agrees⟩⟩
  · exact hs.refused .trace rfl hp rfl (by decide) (traceServe_badValue s bad)
  · exact hs.refused .trace rfl hp rfl (by decide) (traceServe_notFrozen ha lower upper first free)
  · obtain rfl : index = (s.ring l).indexAt := funext hindex
    have served := traceServe_frozen ha lower upper first frozen
    refine ⟨fun past filled => ?_, fun within => ?_⟩
    · rw [if_neg (by omega)] at served
      exact hs.refused .trace rfl hp rfl (by decide) served
    · have placed := (Ring.ok_iff.mp ok).1
      subst shot
      rw [if_pos within, traceAccepted_eq ha frozen placed n.toNat rfl] at served
      exact ⟨_, hs.accepted .trace rfl hp rfl (by decide) served rfl, by simp [placed.held_length, rd16],
        fun i hi => placed.returned_slot rfl hi⟩
  · obtain ⟨d, ⟨w, at_p, agrees, rfl⟩, least⟩ := shotPosition_nearest hp
    obtain ⟨inside, rfl⟩ := List.getElem?_eq_some_iff.mp at_p
    exact ⟨inside, agrees, fun q hq => least q _ (List.getElem?_eq_getElem hq)⟩

end Sys2Proof.Machine
end

section
/-! PROOFS. What leaves the host line interface as it is: the events of the lane links, and the owners of the requests but for the counts
that STATUS clears (R166, R179). -/

namespace Sys2Proof.Machine

theorem WritesReports.host {s t : State} (h : WritesReports s t) : t.host = s.host := (congrArg State.host h :)

theorem WritesAttempt.host {s t : State} (h : WritesAttempt s t) : t.host = s.host := (congrArg State.host h :)

/-! ### The lane link ports (R21 to R40, R57 to R60) -/

theorem tableReset_host (p : PortIx) (before lane : Option LaneIx) (s : State) : (tableReset p before lane s).host = s.host :=
  (LinksReset.tableReset (fun _ => lane) p before s).host

theorem outboundFrameSentStep_host (p : PortIx) (s : State) : (outboundFrameSentStep p s).host = s.host := by
  unfold outboundFrameSentStep; split <;> rfl

theorem badFrame_host (parity : Bool) (p : PortIx) (s : State) : (badFrame parity p s).host = s.host := by
  rw [badFrame_eq]
  split
  · exact (DueFrame.enterLost p _).host
  · rfl

theorem commit_host (l : LaneIx) (s : State) : (commit l s).host = s.host :=
  (congrArg State.host (zeroCommit_writes l _)).trans (WritesReports.offerEntry l _ _ _).host

theorem sampleTaken_host (p : PortIx) (c : Chan) (seq : BitVec 4) (raw : BitVec 16) (overload : Bool) (s : State) :
    (sampleTaken p c seq raw overload s).host = s.host := by
  have taken : ∀ l x t, (takeSample l x t).host = t.host := fun l x t => by
    unfold takeSample
    simp only
    split
    · exact commit_host l _
    · rfl
  unfold sampleTaken
  simp only
  split
  · split
    · exact taken _ _ _
    · rfl
  · rfl

theorem helloTaken_host (p : PortIx) (channels : Nat) (s : State) : (helloTaken p channels s).host = s.host := by
  unfold helloTaken
  simp only
  split
  · split <;> rfl
  · split
    · split
      · exact (DueFrame.enterLost p s).host
      · rfl
    · rfl
  · rfl
  · rfl

theorem useFrame_host (p : PortIx) (u : LinkUse) (s : State) : (useFrame p u s).host = s.host := by
  cases u with
  | sample c seq raw overload => exact sampleTaken_host p c seq raw overload s
  | hello channels => exact helloTaken_host p channels s
  | alive => unfold useFrame aliveTaken; simp only; split <;> rfl
  | discarded => rfl

theorem frameComplete_host (p : PortIx) (error early : Bool) (b0 b1 b2 b3 : Byte) (s : State) :
    (frameComplete p error early b0 b1 b2 b3 s).host = s.host := by
  unfold frameComplete
  split
  · rfl
  · split
    · exact badFrame_host true p s
    · split
      · exact useFrame_host p _ _
      · exact badFrame_host false p s

theorem linkByte_host (p : PortIx) (early : Bool) (b : RxByte) (s : State) : (linkByte p early b s).host = s.host := by
  have cut : ∀ error early t, (frameCut p error early t).host = t.host := fun error early t => by
    unfold frameCut
    split
    · rfl
    · exact badFrame_host error p t
  unfold linkByte
  simp only
  split
  · rfl
  · split
    · split
      · rfl
      · exact cut _ _ _
    · split
      · rfl
      · exact frameComplete_host p _ _ _ _ _ _ _
      · rfl

theorem linkReceive_host (p : PortIx) (rx : LinkRx) (s : State) : (linkReceive p rx s).host = s.host :=
  List.foldlRecOn (motive := fun t : State => t.host = s.host) rx.bytes _ rfl fun t ht b _ => (linkByte_host p rx.early b t).trans ht

/-! ### The attempt and the store port (R88, R90, R96, R191 to R195) -/

theorem marksAccepted_host (heat : Nat) (lanes : List LaneIx) (s : State) : (marksAccepted heat lanes s).host = s.host := by
  have created : (createRecord heat lanes s).host = s.host := by rw [createRecord, removeOldest_eq]
  have failed := (DueFrame.forLanes (fun l => .failZero l 3#32) lanes (createRecord heat lanes s)).host.trans created
  have told : ∀ l t, (marksLink l t).host = t.host := fun l t => by
    unfold marksLink
    split
    · rfl
    · exact (OnlyRecords.streamEnded l t).host
  rw [marksAccepted_eq]
  generalize forLanes lanes (fun l => failZero l 3#32) (createRecord heat lanes s) = u at failed ⊢
  have lamps := lampsOff_writes allPorts (releaseRings u)
  refine forLanes_induct (P := fun t => t.host = s.host) lanes ?_ fun l _ t ht => (told l t).trans ht
  rw [State.mapDetectors_host, lamps]
  exact failed

theorem setAccepted_host (r : Record) (s : State) : (setAccepted r s).host = s.host := by
  unfold setAccepted
  simp only
  split <;> simp

theorem standClose_host (r : Record) (s : State) : (standClose r s).host = s.host := by
  have reported := (WritesReports.forLanes .standDetector r.lanes s).host
  simpa only [standClose_eq, closeAttempt, place, State.mapRings, changeRecord_host, State.mapDetectors] using reported

theorem beginSave_host (image : List Byte) (s : State) : (beginSave image s).host = s.host := by
  unfold beginSave; split <;> rfl

theorem saveTakenStep_host (s : State) : (saveTakenStep s).host = s.host := by
  unfold saveTakenStep; split <;> rfl

theorem saveStoredStep_host (s : State) : (saveStoredStep s).host = s.host := by
  unfold saveStoredStep
  split
  · split
    · rfl
    · split <;> rfl
  · rfl

theorem loadAddressStep_host (s : State) : (loadAddressStep s).host = s.host := by
  unfold loadAddressStep; split <;> rfl

theorem endLoad_host (outcome : StoreState) (copy : Option LoadCopy) (marker : Option Nat) (s : State) :
    (endLoad outcome copy marker s).host = s.host := by
  unfold endLoad
  exact (DueFrame.forPorts .completeHello allPorts _).host.trans (by cases copy <;> rfl)

theorem loadReadStep_host (taken : Option (Vector Byte 16)) (s : State) : (loadReadStep taken s).host = s.host := by
  unfold loadReadStep
  split
  · split
    · exact endLoad_host _ _ _ s
    · split
      · rfl
      · exact endLoad_host _ _ _ s
      · exact endLoad_host _ _ _ s
  · rfl

/-! ### The owners of the requests (R173, R179) -/

theorem laneSetResets_host (l : LaneIx) (old new : LaneEntry) (s : State) : (laneSetResets l old new s).host = s.host := by
  have reset : ∀ o before t, (resetPort o before (some l) t).host = t.host := fun o before t => (LinksReset.resetPort o before l t).host
  rw [laneSetResets_eq]
  split
  · split
    · exact reset _ _ _
    · rfl
  · exact (reset _ _ _).trans (reset _ _ _)

theorem lineSetAccepted_host (c : LineSettings) (s : State) : (lineSetAccepted c s).host = s.host := by
  by_cases h : s.line.rate = c.rate
  · rw [lineSetAccepted, if_pos h]
  · exact (LinksReset.lineSet (Ne.symm h)).host

theorem traceFaults_host (l : LaneIx) (read : List (Nat × Slot)) (s : State) : (traceFaults l read s).host = s.host :=
  List.foldlRecOn (motive := fun t : State => t.host = s.host) _ _ rfl fun _ ht _ _ => ht

/-- The owner of every request but STATUS leaves the host line interface alone, whether it accepts or refuses. -/
theorem serveKind_host {k : Kind} (status : k ≠ .status) (payload : List Byte) (s : State) :
    (serveKind k payload s).state.host = s.host := by
  cases k
  case status => exact absurd rfl status
  case events => simp only [serveKind, eventsServe]; (repeat' split) <;> rfl
  case port => simp only [serveKind, portServe]; (repeat' split) <;> simp [accepted, refuse]
  case laneSet => simp only [serveKind, laneSetServe]; (repeat' split) <;> simp [accepted, refuse, laneSetAccepted, laneSetResets_host]
  case laneGet => simp only [serveKind, laneGetServe]; (repeat' split) <;> rfl
  case profileSet => simp only [serveKind, profileSetServe]; (repeat' split) <;> rfl
  case profileGet => simp only [serveKind, profileGetServe]; (repeat' split) <;> rfl
  case lineSet => simp only [serveKind, lineSetServe]; (repeat' split) <;> simp [accepted, refuse, lineSetAccepted_host]
  case lineGet => simp only [serveKind, lineGetServe]; split <;> rfl
  case zero => simp only [serveKind, zeroServe]; (repeat' split) <;> rfl
  case marks => simp only [serveKind, marksRequest]; (repeat' split) <;> simp [accepted, refuse, marksAccepted_host]
  case set => simp only [serveKind, setRequest]; (repeat' split) <;> simp [accepted, refuse, setAccepted_host]
  case stand => simp only [serveKind, standRequest]; (repeat' split) <;> simp [accepted, refuse, standClose_host]
  case record => simp only [serveKind, recordRequest]; (repeat' split) <;> rfl
  case recallRequest => simp only [serveKind, recallServe]; (repeat' split) <;> simp [accepted, refuse, pulseRequest, place]
  case reserve => simp only [serveKind, reserveServe]; (repeat' split) <;> rfl
  case rule => simp only [serveKind, ruleServe]; (repeat' split) <;> simp [accepted, refuse, ruleAccepted]
  case trace => simp only [serveKind, traceServe]; (repeat' split) <;> simp [traceAccepted, accepted, refuse, traceFaults_host]
  case storeSave => simp only [serveKind, storeSaveServe]; (repeat' split) <;> simp [accepted, refuse, saveAccepted, beginSave_host]
  case restart => simp only [serveKind, restartServe]; split <;> rfl

/-- A host line interface that has its counts at other values alone. -/
def HostLine.CountsApart (x y : HostLine) : Prop :=
  y = { x with parityCount := y.parityCount, crcCount := y.crcCount, timeoutCount := y.timeoutCount }

/-- Of the host line interface the owner of a request may write the counts, which STATUS clears, and nothing else (R179). -/
theorem serveKind_countsApart (k : Kind) (payload : List Byte) (s : State) :
    s.host.CountsApart (serveKind k payload s).state.host := by
  by_cases status : k = .status
  · subst status
    simp only [serveKind, statusServe]
    split
    · split
      · simp only [accepted]
        split <;> rfl
      · rfl
    · rfl
  · rw [serveKind_host status]
    rfl

theorem serveRequest_countsApart (code : Byte) (payload : List Byte) (s : State) :
    s.host.CountsApart (serveRequest code payload s).state.host := by
  unfold serveRequest
  split
  · rfl
  · split
    · rfl
    · split
      · rfl
      · exact serveKind_countsApart _ payload s

end Sys2Proof.Machine
end

section
/-! PROOFS. The host line between commands: only REPLY_START begins to drive it, and a station in address fault has no reply (R166, R170,
R177, R178). -/

namespace Sys2Proof.Machine

/-- What every command but REPLY_START does to the host line interface: `HostInv` stays, and a reply being sent was being sent before. -/
structure LineQuiet (s t : State) : Prop where
  keeps : HostInv s → HostInv t
  sent  : ∀ rep, t.host.tx = .sending rep → s.host.tx = .sending rep

theorem addressed_congr {s t : State} (h : t.host.address = s.host.address) (a : Byte) : addressed t a = addressed s a := by
  simp [addressed, h]

/-- With no address of its own a station is reached by a broadcast alone (R170). -/
theorem addressed_fault {s : State} {a : Byte} (h : s.host.address = none) : addressed s a = true ↔ a = 31#8 := by
  simp [addressed, h]

/-- A request lets a reply go on being sent and begins none (R176, R178). -/
theorem txAfter_sending {now : Time} {a tag code : Byte} {r : Served} {tx : TxState} {rep : Reply}
    (h : txAfter now a tag code r tx = .sending rep) : tx = .sending rep := by
  unfold txAfter at h
  split at h
  · cases tx with
    | idle => cases h
    | waiting => cases h
    | sending => exact h
  · cases h

/-- A broadcast leaves an idle transmitter idle (R174). -/
theorem txAfter_broadcast (now : Time) (tag code : Byte) (r : Served) : txAfter now 31#8 tag code r .idle = .idle := rfl

namespace LineQuiet

theorem refl (s : State) : LineQuiet s s := ⟨id, fun _ => id⟩

theorem trans {a b c : State} (h : LineQuiet a b) (k : LineQuiet b c) : LineQuiet a c :=
  ⟨fun inv => k.keeps (h.keeps inv), fun rep e => h.sent rep (k.sent rep e)⟩

theorem of_host {s t : State} (h : t.host = s.host) : LineQuiet s t := by
  refine ⟨fun ⟨idle, reaches⟩ => ?_, fun rep e => h ▸ e⟩
  rw [HostInv, h]
  exact ⟨idle, fun a rest e => (addressed_congr (congrArg HostLine.address h) a).trans (reaches a rest e)⟩

theorem afterReset (s : State) (pins : Pins) (held : Bool) (pending : List Instr) : LineQuiet s (State.afterReset pins held pending) :=
  ⟨fun _ => ⟨fun _ => rfl, nofun⟩, nofun⟩

/-- The receiver moves on and may count: the address byte of a frame that it holds reaches this station (R170). -/
theorem receives {s : State} {x : RxState} (parity crc timeout : Nat)
    (reach : HostInv s → ∀ a rest, x = .receive (a :: rest) → addressed s a = true) :
    LineQuiet s { s with host := { s.host with rx := x, parityCount := parity, crcCount := crc, timeoutCount := timeout } } :=
  ⟨fun inv => ⟨inv.1, reach inv⟩, fun _ => id⟩

theorem setRx {s : State} {x : RxState} (reach : HostInv s → ∀ a rest, x = .receive (a :: rest) → addressed s a = true) :
    LineQuiet s (setRx x s) := receives _ _ _ reach

/-! ### A request taken (R173 to R178) -/

theorem requestTaken {s : State} {a : Byte} (tag code : Byte) (payload : List Byte) (reach : HostInv s → addressed s a = true) :
    LineQuiet s (requestTaken a tag code payload s) := by
  have kept := serveRequest_countsApart code payload (Machine.setRx .hunt s)
  unfold Machine.requestTaken
  simp only
  split
  · exact afterReset s _ _ _
  · rw [kept]
    refine ⟨fun inv => ⟨fun fault => ?_, nofun⟩, fun rep e => txAfter_sending e⟩
    have broadcast : a = 31#8 := (addressed_fault fault).mp (reach inv)
    subst broadcast
    simp only [inv.1 fault, txAfter_broadcast]

/-! ### Bytes (R167 to R171) -/

/-- A frame in RECEIVE whose address byte reaches this station takes a byte, and may be complete (R168, R170). -/
theorem receivePlace {s : State} {frame : List Byte} (reach : HostInv s → ∀ a rest, frame = a :: rest → addressed s a = true) :
    LineQuiet s (receivePlace frame s) := by
  have hunting : ∀ parity crc timeout, LineQuiet s
      { s with host := { s.host with rx := .hunt, parityCount := parity, crcCount := crc, timeoutCount := timeout } } :=
    fun _ _ _ => receives _ _ _ nofun
  unfold Machine.receivePlace
  split
  · exact hunting _ _ _
  · split
    · next ended =>
      unfold frameEnded
      simp only
      split
      · refine requestTaken _ _ _ fun inv => ?_
        cases frame with
        | nil => exact absurd ended.1 (by simp)
        | cons a rest => exact reach inv a rest rfl
      · exact hunting _ _ _
    · exact setRx fun inv a rest e => reach inv a rest (RxState.receive.inj e)

theorem takeHostByte (b : HostByte) (s : State) : LineQuiet s (takeHostByte b s) := by
  unfold Machine.takeHostByte
  split
  · split
    · exact setRx (by simp)
    · exact refl s
  · next frame rx =>
    unfold receiveByte
    split
    · exact receives _ _ _ nofun
    · split
      · split
        · next own => exact setRx fun _ a rest e => by cases e; exact own
        · exact setRx nofun
      · refine receivePlace fun inv a rest e => ?_
        cases e
        exact inv.2 _ _ rx
  · unfold muteHeaderByte
    split
    · split <;> exact setRx nofun
    · exact setRx nofun
  · unfold muteBodyByte
    split <;> exact setRx nofun

theorem hostByte (b : HostByte) (s : State) : LineQuiet s (hostByte b s) := by
  unfold Machine.hostByte
  split
  · exact refl s
  · exact takeHostByte b s

theorem hostBytes (bytes : List HostByte) (s : State) : LineQuiet s (hostBytes bytes s) :=
  List.foldlRecOn (motive := LineQuiet s) bytes _ (refl s) fun _ ht b _ => ht.trans (hostByte b _)

theorem quietPassed (s : State) : LineQuiet s (quietPassed s) := by
  unfold Machine.quietPassed
  split
  · exact refl s
  · exact receives _ _ _ nofun
  all_goals exact setRx nofun

theorem requestArrives (code : Byte) (r : Request) (s : State) : LineQuiet s (requestArrives code r s) := by
  unfold Machine.requestArrives
  split
  · next taken => exact requestTaken _ _ _ fun _ => taken.2.1
  · exact hostBytes _ s

/-! ### The end of a reply, and the tick (R177, R178) -/

theorem replyOver (s : State) : LineQuiet s (replyOver s) := by
  unfold Machine.replyOver
  simp only
  split
  · exact afterReset s _ _ _
  · exact ⟨fun inv => ⟨fun _ => rfl, inv.2⟩, nofun⟩

theorem replySentStep (s : State) : LineQuiet s (replySentStep s) := by
  unfold Machine.replySentStep
  split
  · exact replyOver s
  · exact refl s

theorem replyAbandonedStep (s : State) : LineQuiet s (replyAbandonedStep s) := by
  unfold Machine.replyAbandonedStep
  split
  · split
    · exact replyOver s
    · exact refl s
  · exact refl s

theorem nextTick (pins : Pins) (upsets : List (LaneIx × Nat)) (s : State) : LineQuiet s (nextTick pins upsets s) := by
  obtain ⟨-, -, -, host, -⟩ := nextTick_spec pins upsets s
  exact of_host host

theorem tickStep (pins : Pins) (upsets : List (LaneIx × Nat)) (s : State) : LineQuiet s (tickStep pins upsets s) := by
  have events : LineQuiet s (takeEvents s) := of_host (takeEvents_spec s).1.host
  unfold Machine.tickStep
  split
  · rw [takeDue_eq]
    exact (events.trans (replyAbandonedStep _)).trans (nextTick pins upsets _)
  · exact nextTick pins upsets s

/-! ### Every command but REPLY_START -/

/-- A command on the running part does what its meaning does; a held part does not change. -/
theorem live {f : State → State} {s t : State} (h : LineQuiet s (f s)) (e : live f s = .next t) : LineQuiet s t := by
  unfold Machine.live at e
  split at e
  · cases e; exact refl s
  · cases e; exact h

/-- A command whose meaning leaves the host line interface alone. -/
theorem live_host {f : State → State} {s t : State} (h : (f s).host = s.host) (e : Machine.live f s = .next t) : LineQuiet s t :=
  live (of_host h) e

theorem exec {c : Instr} {s t : State} (other : c ≠ .replyStart) (e : exec c s = .next t) : LineQuiet s t := by
  cases hr : requestOf c with
  | some request =>
    obtain ⟨code, r⟩ := request
    rw [exec_request hr] at e
    exact live (requestArrives code r s) e
  | none =>
    cases c with
    | reset straps => cases e; exact afterReset s _ _ _
    | resetPinAsserted => cases e; exact afterReset s _ _ _
    | startUpFirstTick pins =>
      refine live_host ?_ e
      unfold startUpFirstTickStep
      split
      · rfl
      · obtain ⟨_, _, _, _, _, first⟩ := firstTick_writes pins s
        rw [first]
    | tick pins upsets => exact live (tickStep pins upsets s) e
    | requestFrameDropped bytes => exact live (hostBytes bytes s) e
    | frameTimeout bytes =>
      exact live (f := fun t => Machine.quietPassed (Machine.hostBytes bytes t)) ((hostBytes bytes s).trans (quietPassed _)) e
    | mutedFrame bytes quiet =>
      refine live (f := fun t => if quiet then Machine.quietPassed (Machine.hostBytes bytes t) else Machine.hostBytes bytes t) ?_ e
      split
      · exact (hostBytes bytes s).trans (quietPassed _)
      · exact hostBytes bytes s
    | replyStart => exact absurd rfl other
    | replySent => exact live (replySentStep s) e
    | replyAbandoned2ms => exact live (replyAbandonedStep s) e
    | pistolEdge => exact live_host (PistolFrame.pistolEdgeStep s).host e
    | shotAccepted => exact live_host (PistolFrame.shotAcceptedStep s).host e
    | glitch => exact live_host (PistolFrame.glitchStep s).host e
    | pistolHoldEnd => exact live_host (PistolFrame.pistolHoldEndStep s).host e
    | recallPulseEnd => exact live_host (congrArg State.host (recallPulseEndStep_writes s) :) e
    | sampleFrame p rx => exact live_host (linkReceive_host p rx s) e
    | hello p rx => exact live_host (linkReceive_host p rx s) e
    | alive p rx => exact live_host (linkReceive_host p rx s) e
    | discardedStatusFrame p rx => exact live_host (linkReceive_host p rx s) e
    | badFrame p rx => exact live_host (linkReceive_host p rx s) e
    | silenceEndExpiry p => exact live_host (DueFrame.silenceEndStep p s).host e
    | presenceActive p => exact live_host (presenceActiveStep_spec p s).1.host e
    | presenceInactive p => exact live_host (presenceInactiveStep_spec p s).1.host e
    | helloWaitEndExpiry p => exact live_host (DueFrame.helloWaitEndStep p s).host e
    | breakEnd p => exact live_host (DueFrame.breakEndStep p s).host e
    | outboundFrameSent p => exact live_host (outboundFrameSentStep_host p s) e
    | zeroTimeout l => exact live_host (congrArg State.host (zeroTimeoutStep_writes l s) :) e
    | settleEndExpiry => exact live_host (WritesAttempt.settleEndStep s).host e
    | windowCloseExpiry => exact live_host (windowCloseStep_spec s).1.host e
    | recallShotEndExpiry => exact live_host (recallShotEndStep_spec s).1.host e
    | heldAgeEndExpiry l => exact live_host (heldAgeEndStep_spec l s).1.host e
    | attnPulseStart =>
      refine live_host ?_ e
      unfold attnPulseStartStep
      split <;> rfl
    | attnPulseEnd => exact live_host (f := attnPulseEndStep) rfl e
    | loadAddressAcknowledged => exact live_host (loadAddressStep_host s) e
    | loadAcknowledgeDeadline => exact live_host (loadDeadlineStep_spec s).1.host e
    | loadRead taken => exact live_host (loadReadStep_host taken s) e
    | saveWriteTaken => exact live_host (saveTakenStep_host s) e
    | saveWriteStored => exact live_host (saveStoredStep_host s) e
    | saveAcknowledgeDeadline => exact live_host (congrArg State.host (saveDeadlineStep_spec s).1 :) e
    | _ => cases hr

end LineQuiet

/-! ### REPLY_START (R177) -/

/-- REPLY_START either finds no reply that can begin, or begins the one that waits (R177). -/
theorem execReplyStart_cases {s t : State} (e : exec .replyStart s = .next t) :
    t = s ∨ ∃ rep limit, s.host.tx = .waiting rep limit ∧ t = { s with host := { s.host with tx := .sending rep } } := by
  change live replyStartStep s = .next t at e
  unfold live replyStartStep at e
  split at e
  · cases e; exact .inl rfl
  · split at e
    · next rep limit waits =>
      split at e
      · cases e; exact .inr ⟨rep, limit, waits, rfl⟩
      · cases e; exact .inl rfl
    · cases e; exact .inl rfl

theorem deAsserted_iff (s : State) : deAsserted s = true ↔ ∃ rep, s.host.tx = .sending rep := by
  unfold deAsserted
  split
  · next rep h => simp [h]
  · next h => simpa using h

/-- Whatever the command, a station in address fault goes on having no reply (R177). -/
theorem HostInv.exec {c : Instr} {s t : State} (h : HostInv s) (e : exec c s = .next t) : HostInv t := by
  by_cases start : c = .replyStart
  · subst start
    rcases execReplyStart_cases e with rfl | ⟨rep, limit, waits, rfl⟩
    · exact h
    · refine ⟨fun fault => ?_, h.2⟩
      have idle := h.1 fault
      rw [waits] at idle
      cases idle
  · exact (LineQuiet.exec start e).keeps h

/-- Settles O58: of the commands only REPLY_START begins to send, and it sends the reply that waits, which a station in address fault does
not have. -/
theorem lineDrivenOnlyForReplies : Obligations.LineDrivenOnlyForReplies := by
  refine ⟨fun s t h e => ?_, fun s h de fault => ?_, fun c s t e de => ?_⟩
  · unfold step at e
    split at e
    · cases e; exact h
    · refine HostInv.exec ?_ e
      exact (LineQuiet.of_host rfl).keeps h
  · obtain ⟨rep, sending⟩ := (deAsserted_iff s).mp de
    rw [h.1 fault] at sending
    cases sending
  · obtain ⟨rep, sending⟩ := (deAsserted_iff t).mp de
    by_cases start : c = .replyStart
    · subst start
      rcases execReplyStart_cases e with rfl | ⟨rep, limit, waits, rfl⟩
      · exact .inl rfl
      · exact .inr ⟨rfl, rep, limit, waits, rfl⟩
    · exact .inl (((LineQuiet.exec start e).sent rep sending).trans sending.symm)

end Sys2Proof.Machine
end

section
/-! PROOFS. The common refusals, STATUS and PORT, and the request that is broadcast (R39, R173, R174, R178, R179, section 12.5). -/

namespace Sys2Proof.Machine

/-! ### The common refusals (R173) -/

/-- A request that the common tests refuse changes nothing but the reply that waits. -/
theorem exec_request_commonRefusal {c : Instr} {code : Byte} {r : Request} {s : State} {st : Status} (h : requestOf c = some (code, r))
    (hs : Takes s r) (hl : r.payload.length ≤ 200) (e : serveRequest code r.payload s = refuse s st) (bad : st ≠ .ok) :
    exec c s = .next { s with host := answered s r code st [] } := by
  obtain ⟨running, _, _, _, _, restart⟩ := id hs
  have noRestart : isRestart code (refuse s st) = s.host.restartPending := by simp [isRestart, refuse, bad, restart]
  rw [exec_request h, live_running _ running, requestArrives_takes code hs hl, e, noRestart]
  rfl

/-- Settles O7: the three tests of R173 in their order. -/
theorem commonRefusals : Obligations.CommonRefusals := by
  intro c code r s h hs hl
  refine ⟨fun unknown => ?_, fun k known => ⟨fun long => ?_, fun fits loading other => ?_⟩⟩
  · exact exec_request_commonRefusal h hs hl (serveRequest_unknown _ s unknown) (by decide)
  · exact exec_request_commonRefusal h hs hl (serveRequest_length s known long) (by decide)
  · exact exec_request_commonRefusal h hs hl (serveRequest_loading known fits loading other) (by decide)

/-! ### STATUS and PORT (R39, R179) -/

theorem flagOfByte_none {b : Byte} (h : 1 < b.toNat) : flagOfByte b = none := by
  unfold flagOfByte
  rw [if_neg, if_neg] <;> rintro rfl <;> simp at h

theorem portOfByte_eq {b : Byte} {p : PortIx} (h : b.toNat = p.val) : portOfByte b = some p := by
  unfold portOfByte
  rw [dif_pos (by omega)]
  exact congrArg some (Fin.ext h)

theorem portOfByte_none {b : Byte} (h : 11 < b.toNat) : portOfByte b = none := dif_neg (by omega)

theorem statusServe_kept (s : State) : statusServe [0#8] s = accepted s (statusBytes s) := rfl

theorem statusServe_cleared (s : State) :
    statusServe [1#8] s = accepted { s with host := s.host.clearCounts } (statusBytes s) := rfl

theorem statusServe_badValue {m : Byte} (h : 1 < m.toNat) (s : State) : statusServe [m] s = refuse s .badValue := by
  simp only [statusServe, flagOfByte_none h]

theorem portServe_kept {a : Byte} {p : PortIx} (h : a.toNat = p.val) (s : State) :
    portServe [a, 0#8] s = accepted s (portBytes p s) := by
  simp only [portServe, portOfByte_eq h]
  rfl

theorem portServe_cleared {a : Byte} {p : PortIx} (h : a.toNat = p.val) (s : State) :
    portServe [a, 1#8] s = accepted (s.setPort p (s.port p).clearCounts) (portBytes p s) := by
  simp only [portServe, portOfByte_eq h]
  rfl

theorem portServe_badMark {m : Byte} (a : Byte) (h : 1 < m.toNat) (s : State) : portServe [a, m] s = refuse s .badValue := by
  simp only [portServe, flagOfByte_none h]
  cases portOfByte a <;> rfl

theorem portServe_badPort {a : Byte} (m : Byte) (h : 11 < a.toNat) (s : State) : portServe [a, m] s = refuse s .badValue := by
  simp only [portServe, portOfByte_none h]

/-- The 43 bytes of STATUS, field by field: the head, two bytes for each port, and the tail (section 12.5). -/
theorem statusBytes_layout (s : State) : statusBytes s =
    [lineStateCode (lineState s)] ++ be16 (openId s) ++ be32 s.clock
      ++ allPorts.flatMap (fun p => [linkStateCode (s.port p).link, laneByte (mappedLane s p)])
      ++ [storeStateCode s.store.state] ++ be16 s.host.parityCount ++ be16 s.host.crcCount ++ be16 s.host.timeoutCount
      ++ [BitVec.ofNat 8 s.events.list.length, if s.events.overflow then 1#8 else 0#8, 0x5A#8, 0x10#8, 0x01#8] := by
  simp only [statusBytes, List.append_assoc]
  rfl

/-- Settles O8: what is answered by the clear mark, and the two layouts field by field. -/
theorem statusAndPortAnswered : Obligations.StatusAndPortAnswered := by
  refine ⟨fun s r m hs hp => ⟨?_, ?_, fun bad => ?_⟩, fun s => ?_, fun s r a m p hs hp ha => ⟨?_, ?_, fun bad => ?_⟩,
    fun s r a m hs hp ha => ?_, fun s p => ?_⟩
  · rintro rfl
    exact exec_request_accepted (k := .status) rfl hs (by rw [hp]; rfl) (by decide) (.inr rfl) (hp ▸ statusServe_kept s) rfl
  · rintro rfl
    obtain ⟨_, _, _, _, _, restart⟩ := id hs
    rw [exec_request_served (k := .status) rfl hs (by rw [hp]; rfl) (by decide) (.inr rfl), hp, ← restart]
    rfl
  · exact exec_request_refused (k := .status) rfl hs (by rw [hp]; rfl) (by decide) (.inr rfl) (hp ▸ statusServe_badValue bad s)
  · exact statusBytes_layout s
  · rintro rfl
    exact hs.accepted .port rfl hp rfl (by decide) (portServe_kept ha s) rfl
  · rintro rfl
    exact hs.accepted .port rfl hp rfl (by decide) (portServe_cleared ha s) rfl
  · exact hs.refused .port rfl hp rfl (by decide) (portServe_badMark a bad s)
  · exact hs.refused .port rfl hp rfl (by decide) (portServe_badPort m ha s)
  · rfl

/-! ### A broadcast request (R174, R178) -/

theorem isRestart_other {code : Byte} (r : Served) (h : code ≠ 0x39#8) : isRestart code r = false := by
  simp [isRestart, Kind.code, h]

theorem kindOfCode_restart {k : Kind} (h : kindOfCode 0x39#8 = some k) : k = .restart := by
  cases h; rfl

/-- A broadcast request other than RESTART, no RESTART being under way, has its effect and leaves the transmitter IDLE, whether a reply
waited or none (R174, R178). -/
theorem requestArrives_broadcast {s : State} {code : Byte} {r : Request} (address : r.address = 31#8) (rx : s.host.rx = .hunt)
    (de : deAsserted s = false) (restart : s.host.restartPending = false) (other : code ≠ 0x39#8) (fits : r.payload.length ≤ 200) :
    requestArrives code r s = { (serveRequest code r.payload s).state with
      host := { (serveRequest code r.payload s).state.host with tx := .idle, restartPending := false } } := by
  have ready : readyToReceive s = true := by simp [readyToReceive, rx, de]
  have reached : addressed s r.address = true := by simp [addressed, address]
  have idle : ∀ served, txAfter s.clock 31#8 r.tag code served s.host.tx = .idle := fun served => by
    cases h : s.host.tx with
    | sending rep => simp [deAsserted, h] at de
    | idle => rfl
    | waiting rep limit => rfl
  rw [requestArrives, if_pos ⟨ready, reached, fits⟩, requestTaken, setRx_self rx]
  simp only [restart, isRestart_other _ other, address, idle, Bool.false_and, Bool.false_eq_true, false_and, or_self, if_false]

/-- With no reply in hand a broadcast request other than RESTART has the effect of its service and no other (R174). -/
theorem exec_broadcast_noReply {d : Instr} {s : State} {code : Byte} {r : Request} (hd : requestOf d = some (code, r))
    (running : s.resetHeld = false) (address : r.address = 31#8) (rx : s.host.rx = .hunt) (idle : s.host.tx = .idle)
    (restart : s.host.restartPending = false) (other : code ≠ 0x39#8) (fits : r.payload.length ≤ 200) :
    exec d s = .next (serveRequest code r.payload s).state := by
  have de : deAsserted s = false := by simp [deAsserted, idle]
  have kept := serveRequest_countsApart code r.payload s
  rw [exec_request hd, live_running _ running, requestArrives_broadcast address rx de restart other fits]
  generalize (serveRequest code r.payload s).state = t at kept ⊢
  have tx : t.host.tx = .idle := by rw [kept]; exact idle
  have pending : t.host.restartPending = false := by rw [kept]; exact restart
  rw [← tx, ← pending]

/-- Settles O26: broadcast or addressed, the request is served alike; what differs is the reply. -/
theorem broadcastActsWithoutReply : Obligations.BroadcastActsWithoutReply := by
  refine ⟨fun c d code r s t hc hd hs fits other e => ?_,
    fun d code r s hd address running rx fault idle restart fits => ?_⟩
  · obtain ⟨running, rx, de, -, -, pending⟩ := id hs
    rw [exec_request hc, live_running _ running, requestArrives_takes code hs fits, isRestart_other _ other] at e
    rw [exec_request hd, live_running _ running,
      requestArrives_broadcast (r := { r with address := 31#8 }) rfl rx de pending other fits, ← Host.Outcome.next.inj e]
  · have served := exec_broadcast_noReply hd running address rx idle restart
    refine ⟨fun unknown => ?_, fun k known notRestart => ?_⟩
    · rw [served (by rintro rfl; cases unknown) fits, serveRequest_unknown _ s unknown]
      rfl
    · have other : code ≠ 0x39#8 := by rintro rfl; exact notRestart (kindOfCode_restart known)
      rw [served other fits]
      refine ⟨fun refused => ?_, fun length pass => by rw [serveRequest_owner known length pass]⟩
      by_cases length : r.payload.length = k.length
      · obtain ⟨loading, notStatus⟩ := refused.resolve_left (not_not.mpr length)
        rw [serveRequest_loading known length loading notStatus]
        rfl
      · rw [serveRequest_length s known length]
        rfl

end Sys2Proof.Machine
end

section
/-! PROOFS. The receiver byte by byte: frames taken, frames damaged or cut off, frames of other stations, and bytes that it does not take
(R167 to R171). -/

namespace Sys2Proof.Machine

/-! ### The commands of the receiver on the running part -/

section Running

variable {s : State} (running : s.resetHeld = false)
include running

theorem exec_requestFrameDropped (bytes : List HostByte) : exec (.requestFrameDropped bytes) s = .next (hostBytes bytes s) :=
  live_running _ running

theorem exec_frameTimeout (bytes : List HostByte) : exec (.frameTimeout bytes) s = .next (quietPassed (hostBytes bytes s)) :=
  live_running (fun t => quietPassed (hostBytes bytes t)) running

theorem exec_mutedFrame (bytes : List HostByte) (quiet : Bool) : exec (.mutedFrame bytes quiet) s =
    .next (if quiet then quietPassed (hostBytes bytes s) else hostBytes bytes s) :=
  live_running (fun t => if quiet then quietPassed (hostBytes bytes t) else hostBytes bytes t) running

end Running

/-! ### A frame that is still open (R170) -/

/-- A frame in RECEIVE is open: it has no length byte yet, or one of at most 200 and not all of its bytes. -/
def FrameOpen (frame : List Byte) : Prop :=
  4 ≤ frame.length → (frame.getD 3 0#8).toNat ≤ 200 ∧ frame.length < frameEnd frame

theorem FrameOpen.of_append {xs ys : List Byte} (h : FrameOpen (xs ++ ys)) : FrameOpen xs := by
  intro four
  have lengthByte : (xs ++ ys).getD 3 0#8 = xs.getD 3 0#8 := List.getD_append _ _ _ _ four
  rw [FrameOpen, frameEnd, lengthByte, List.length_append] at h
  obtain ⟨short, before⟩ := h (by omega)
  exact ⟨short, by rw [frameEnd]; omega⟩

/-- A byte that leaves the frame open is held in it. -/
theorem receivePlace_open {frame : List Byte} (h : FrameOpen frame) (s : State) : receivePlace frame s = setRx (.receive frame) s := by
  rw [receivePlace, if_neg, if_neg]
  · rintro ⟨four, ended⟩
    have := (h (by omega)).2
    omega
  · rintro ⟨four, long⟩
    have := (h (by omega)).1
    omega

/-- One byte more. -/
theorem hostBytes_concat {bytes : List Byte} {s t : State} (h : hostBytes (bytes.map hostByteOf) s = t) (d : Byte) :
    hostBytes ((bytes ++ [d]).map hostByteOf) s = hostByte (hostByteOf d) t := by
  rw [List.map_append, hostBytes_append, h]
  rfl

/-- Bytes that leave the frame open are held in it, one after another. -/
theorem hostBytes_open {rest frame : List Byte} {s : State} (de : deAsserted s = false) (rx : s.host.rx = .receive frame)
    (held : frame ≠ []) (h : FrameOpen (frame ++ rest)) : hostBytes (rest.map hostByteOf) s = setRx (.receive (frame ++ rest)) s := by
  induction rest generalizing frame s with
  | nil => rw [List.append_nil, setRx_self rx]; rfl
  | cons d rest ih =>
    have split : frame ++ d :: rest = (frame ++ [d]) ++ rest := by simp
    rw [split] at h ⊢
    have placed : hostByte (hostByteOf d) s = setRx (.receive (frame ++ [d])) s :=
      (hostByte_placed d de rx held).trans (receivePlace_open h.of_append s)
    rw [List.map_cons, ← List.singleton_append, hostBytes_append]
    change hostBytes (rest.map hostByteOf) (hostByte (hostByteOf d) s) = _
    rw [placed, ih (s := setRx (.receive (frame ++ [d])) s) de rfl (by simp) h]
    rfl

section Ready

variable {s : State} (rx : s.host.rx = .hunt) (de : deAsserted s = false)
include rx de

/-- The sync byte begins a frame (R169). -/
theorem hostByte_sync : hostByte (hostByteOf 0xC3#8) s = setRx (.receive []) s := by
  rw [hostByte_taken _ de, takeHostByte, rx]
  exact if_pos ⟨rfl, hostError_hostByteOf _⟩

/-- The address byte decides between RECEIVE and MUTE (R170, R171). -/
theorem hostBytes_address (a : Byte) : hostBytes ([0xC3#8, a].map hostByteOf) s =
    if addressed s a = true then setRx (.receive [a]) s else setRx (.muteHeader 3) s := by
  change hostByte (hostByteOf a) (hostByte (hostByteOf 0xC3#8) s) = _
  rw [hostByte_sync rx de, hostByte_taken _ (s := setRx (.receive []) s) de, takeHostByte]
  simp only [setRx_host, receiveByte, hostError_hostByteOf]
  rfl

/-- The bytes of an open frame for this station are held in RECEIVE (R170). -/
theorem hostBytes_received {frame : List Byte} (reach : ∀ a ∈ frame.head?, addressed s a = true) (h : FrameOpen frame) :
    hostBytes ((0xC3#8 :: frame).map hostByteOf) s = setRx (.receive frame) s := by
  cases frame with
  | nil => exact hostByte_sync rx de
  | cons a rest =>
    have begun := hostBytes_address rx de a
    rw [if_pos (reach a rfl)] at begun
    have bytes : (0xC3#8 :: a :: rest).map hostByteOf = [0xC3#8, a].map hostByteOf ++ rest.map hostByteOf := rfl
    rw [bytes, hostBytes_append, begun, hostBytes_open (s := setRx (.receive [a]) s) de rfl (by simp) h]
    rfl

end Ready

/-! ### The frame of a request, to its last byte (R168, R170) -/

/-- Of a frame, the bytes from the address on that stand before its last byte leave it open. -/
theorem requestBody_open {code : Byte} {r : Request} (fits : r.payload.length ≤ 200) (c0 : Byte) :
    FrameOpen (requestBody code r ++ [c0]) := by
  intro _
  simp only [frameEnd, requestBody, List.cons_append, List.getD_cons_succ, List.getD_cons_zero, BitVec.toNat_ofNat, List.length_cons,
    List.length_append, List.length_nil]
  omega

/-- A frame cut off before its last byte is open. -/
theorem requestBytes_cut {code : Byte} {r : Request} (fits : r.payload.length ≤ 200) {n : Nat} (one : 1 ≤ n)
    (cut : n < (requestBytes code r).length) : ∃ frame, (requestBytes code r).take n = 0xC3#8 :: frame ∧ FrameOpen frame
      ∧ ∀ a ∈ frame.head?, a = r.address := by
  obtain ⟨c0, c1, crc⟩ : ∃ c0 c1, crcBytes (crc16 (requestBody code r)) = [c0, c1] := ⟨_, _, rfl⟩
  have bytes : requestBytes code r = 0xC3#8 :: ((requestBody code r ++ [c0]) ++ [c1]) := by
    rw [List.append_assoc, List.singleton_append, ← crc]; rfl
  obtain ⟨m, rfl⟩ := Nat.exists_eq_add_of_le' one
  rw [bytes, List.length_cons, List.length_append, List.length_singleton] at cut
  refine ⟨(requestBody code r ++ [c0]).take m, ?_, ?_, fun a ha => ?_⟩
  · rw [bytes, List.take_succ_cons, List.take_append_of_le_length (by omega)]
  · have whole := requestBody_open (code := code) fits c0
    rw [← List.take_append_drop m (requestBody code r ++ [c0])] at whole
    exact whole.of_append
  · cases m with
    | zero => simp at ha
    | succ m => exact (Option.some.inj ha).symm

section Ready

variable {s : State} (rx : s.host.rx = .hunt) (de : deAsserted s = false)
include rx de

/-- The bytes of a frame for this station, with whatever CRC, end the frame (R168). -/
theorem hostBytes_frame {code : Byte} {r : Request} (fits : r.payload.length ≤ 200) (reach : addressed s r.address = true) (c0 c1 : Byte) :
    hostBytes ((0xC3#8 :: (requestBody code r ++ [c0, c1])).map hostByteOf) s =
      frameEnded (requestBody code r ++ [c0, c1]) (setRx (.receive (requestBody code r ++ [c0])) s) := by
  have bytes : 0xC3#8 :: (requestBody code r ++ [c0, c1]) = (0xC3#8 :: (requestBody code r ++ [c0])) ++ [c1] := by simp
  have reached : ∀ a ∈ (requestBody code r ++ [c0]).head?, addressed s a = true := fun a ha =>
    Option.some.inj (show some r.address = some a from ha) ▸ reach
  have whole : (requestBody code r ++ [c0]) ++ [c1] = requestBody code r ++ [c0, c1] := by simp
  have ended := requestBody_frameEnd (code := code) fits [c0, c1]
  have length : (requestBody code r ++ [c0, c1]).length = (requestBody code r).length + 2 := by simp
  have four : 4 ≤ (requestBody code r).length := by simp [requestBody]
  rw [bytes, hostBytes_concat (hostBytes_received rx de reached (requestBody_open fits c0)),
    hostByte_placed (s := setRx (.receive (requestBody code r ++ [c0])) s) c1 de rfl (by simp), whole, receivePlace, if_neg (by omega),
    if_pos ⟨by omega, by omega⟩]

/-- The bytes of a request for this station are the request (R168, R173). -/
theorem hostBytes_requestTaken {code : Byte} {r : Request} (fits : r.payload.length ≤ 200) (reach : addressed s r.address = true) :
    hostBytes ((requestBytes code r).map hostByteOf) s = requestTaken r.address r.tag code r.payload s := by
  have bytes : requestBytes code r = 0xC3#8 :: (requestBody code r ++ crcBytes (crc16 (requestBody code r))) := rfl
  have sound := requestBody_sound (code := code) fits
  rw [bytes, crcBytes, hostBytes_frame rx de fits reach, ← crcBytes, frameEnded_setRx sound, frameEnded_request fits]

end Ready

/-- Settles O28: a receiver that is ready takes the request at the last byte of its frame, and in every other case the command is its bytes. -/
theorem frameBytesAreRequest : Obligations.FrameBytesAreRequest := by
  intro c code r s h fits
  rw [exec_request h]
  change live (hostBytes ((requestBytes code r).map hostByteOf)) s = live (requestArrives code r) s
  have same : hostBytes ((requestBytes code r).map hostByteOf) s = requestArrives code r s := by
    unfold requestArrives
    split
    · next taken =>
      obtain ⟨ready, reach, -⟩ := taken
      simp only [readyToReceive, Bool.and_eq_true, decide_eq_true_eq, Bool.not_eq_true'] at ready
      exact hostBytes_requestTaken ready.1 ready.2 fits reach
    · rfl
  rw [live, live, same]

/-! ### Frames of other stations (R171) -/

/-- The receiver while so many bytes of a muted frame are still to be stepped over. -/
def muteLeft : Nat → RxState
  | 0 => .hunt
  | left + 1 => .muteBody (left + 1)

/-- Bytes stepped over in MUTE, whatever they are. -/
theorem hostBytes_muteLeft {s : State} (de : deAsserted s = false) (ds : List Byte) (left : Nat) :
    hostBytes (ds.map hostByteOf) (setRx (muteLeft (ds.length + left)) s) = setRx (muteLeft left) s := by
  induction ds with
  | nil => rw [List.length_nil, Nat.zero_add]; rfl
  | cons d ds ih =>
    have stepped : hostByte (hostByteOf d) (setRx (muteLeft (ds.length + left + 1)) s) = setRx (muteLeft (ds.length + left)) s := by
      rw [hostByte_taken _ (s := setRx (muteLeft (ds.length + left + 1)) s) de]
      simp only [takeHostByte, setRx_host, muteLeft, muteBodyByte]
      cases ds.length + left <;> rfl
    have count : (d :: ds).length + left = ds.length + left + 1 := by rw [List.length_cons]; omega
    rw [count, ← ih, ← stepped]
    rfl

/-- The tag, the kind and the length byte in MUTE; the length byte tells how many bytes are left (R171). -/
theorem hostByte_muteHeader {s : State} (de : deAsserted s = false) (d : Byte) (left : Nat) :
    hostByte (hostByteOf d) (setRx (.muteHeader (left + 1)) s) =
      if left = 0 then setRx (muteLeft (d.toNat + 2)) s else setRx (.muteHeader left) s := by
  rw [hostByte_taken _ (s := setRx (.muteHeader (left + 1)) s) de]
  simp only [takeHostByte, setRx_host, muteHeaderByte, hostError_hostByteOf]
  cases left <;> rfl

/-- The receiver after `n` bytes that follow the address byte of a muted frame with `body` bytes after its length byte. -/
def mutedAfter (body : Nat) : Nat → RxState
  | 0 => .muteHeader 3
  | 1 => .muteHeader 2
  | 2 => .muteHeader 1
  | n + 3 => muteLeft (body - n)

/-- From its address byte on, the frame of another station is stepped over, as far as it comes (R171). -/
theorem hostBytes_muted {s : State} (rx : s.host.rx = .hunt) (de : deAsserted s = false) {code : Byte} {r : Request}
    (fits : r.payload.length ≤ 200) (other : addressed s r.address = false) (n : Nat) :
    hostBytes (((requestBytes code r).take (n + 2)).map hostByteOf) s = setRx (mutedAfter (r.payload.length + 2) n) s := by
  obtain ⟨body, bytes, length⟩ : ∃ body, requestBytes code r =
      [0xC3#8, r.address, r.tag, code, BitVec.ofNat 8 r.payload.length] ++ body ∧ body.length = r.payload.length + 2 :=
    ⟨r.payload ++ crcBytes (crc16 (requestBody code r)), rfl, List.length_append⟩
  have address : hostBytes ([0xC3#8, r.address].map hostByteOf) s = setRx (.muteHeader 3) s := by
    rw [hostBytes_address rx de, if_neg (by simp [other])]
  have tag := (hostBytes_concat address r.tag).trans (hostByte_muteHeader de r.tag 2)
  have kind := (hostBytes_concat tag code).trans (hostByte_muteHeader de code 1)
  have header := (hostBytes_concat kind (BitVec.ofNat 8 r.payload.length)).trans (hostByte_muteHeader de _ 0)
  rw [bytes]
  match n with
  | 0 => exact address
  | 1 => exact tag
  | 2 => exact kind
  | n + 3 =>
    have counted : (BitVec.ofNat 8 r.payload.length).toNat + 2 = (body.take n).length + (r.payload.length + 2 - n) := by
      rw [BitVec.toNat_ofNat, List.length_take]; omega
    rw [if_pos rfl, counted] at header
    have cut : ([0xC3#8, r.address, r.tag, code, BitVec.ofNat 8 r.payload.length] ++ body).take (n + 5) =
        [0xC3#8, r.address, r.tag, code, BitVec.ofNat 8 r.payload.length] ++ body.take n := rfl
    rw [cut, List.map_append, hostBytes_append]
    refine (congrArg _ header).trans ?_
    exact hostBytes_muteLeft de _ _

/-- Quiet ends a mute at whatever byte it comes (R171). -/
theorem quietPassed_muted {s : State} (rx : s.host.rx = .hunt) (body n : Nat) : quietPassed (setRx (mutedAfter body n) s) = s := by
  have hunting : setRx .hunt s = s := setRx_self rx
  unfold mutedAfter
  split
  iterate 3 exact hunting
  · cases body - _ <;> exact hunting

/-- Settles O27: the frame of another station is stepped over to its last byte, or to the quiet that ends it. -/
theorem otherStationsFramesMuted : Obligations.OtherStationsFramesMuted := by
  intro c code r quiet s h running rx de broadcast own fits
  have other : addressed s r.address = false := by simp [addressed, broadcast, own]
  have muted := hostBytes_muted (code := code) rx de fits other
  have whole : hostBytes ((requestBytes code r).map hostByteOf) s = s := by
    have length : (requestBytes code r).length = r.payload.length + 5 + 2 := by simp [requestBytes, crcBytes]
    have last := muted (r.payload.length + 5)
    rw [← length, List.take_length, mutedAfter, Nat.sub_self] at last
    exact last.trans (setRx_self rx)
  have ended : quietPassed s = s := by rw [quietPassed, rx]
  refine ⟨?_, ?_, fun n two => ?_⟩
  · rw [← frameBytesAreRequest c code r s h fits, exec_requestFrameDropped running, whole]
  · rw [exec_mutedFrame running, whole, ended, ite_self]
  · obtain ⟨m, rfl⟩ := Nat.exists_eq_add_of_le' two
    rw [exec_mutedFrame running, if_pos rfl, muted, quietPassed_muted rx]

/-! ### Damaged frames (R170) -/

section Counts

variable {s : State} (rx : s.host.rx = .hunt)
include rx

theorem crcAbandon_counts (x : RxState) :
    crcAbandon (setRx x s) = { s with host := { s.host with crcCount := min (s.host.crcCount + 1) 65535 } } := by
  have hunting : crcAbandon (setRx x s) = { s with host := { s.host with rx := .hunt, crcCount := min (s.host.crcCount + 1) 65535 } } := rfl
  rw [hunting, ← rx]

theorem parityAbandon_counts (x : RxState) :
    parityAbandon (setRx x s) = { s with host := { s.host with parityCount := min (s.host.parityCount + 1) 65535 } } := by
  have hunting : parityAbandon (setRx x s) =
      { s with host := { s.host with rx := .hunt, parityCount := min (s.host.parityCount + 1) 65535 } } := rfl
  rw [hunting, ← rx]

/-- Quiet abandons a frame in RECEIVE and counts it (R170). -/
theorem quietPassed_counts (frame : List Byte) : quietPassed (setRx (.receive frame) s) =
    { s with host := { s.host with timeoutCount := min (s.host.timeoutCount + 1) 65535 } } := by
  have hunting : quietPassed (setRx (.receive frame) s) =
      { s with host := { s.host with rx := .hunt, timeoutCount := min (s.host.timeoutCount + 1) 65535 } } := rfl
  rw [hunting, ← rx]

end Counts

/-- A frame whose CRC disagrees is dropped (R168, R170). -/
theorem frameEnded_unsound {frame : List Byte} (h : ¬ FrameSound frame) (s : State) : frameEnded frame s = crcAbandon s := if_neg h

/-- A frame is unsound with any CRC but its own (R168). -/
theorem requestBody_unsound {code : Byte} {r : Request} (fits : r.payload.length ≤ 200) {crc : List Byte}
    (wrong : crc ≠ crcBytes (crc16 (requestBody code r))) : ¬ FrameSound (requestBody code r ++ crc) := by
  rw [FrameSound, requestBody_frameEnd fits, List.drop_left, List.take_left]
  exact wrong

/-- A byte with an error abandons the frame in RECEIVE (R170). -/
theorem hostByte_error {s : State} {b : HostByte} {frame : List Byte} (de : deAsserted s = false) (begun : b.underDe = false)
    (error : hostError b.toRxByte = true) : hostByte b (setRx (.receive frame) s) = parityAbandon (setRx (.receive frame) s) := by
  have taken : notTaken b (setRx (.receive frame) s) = false := by rw [notTaken, begun]; exact de
  rw [hostByte, if_neg (by simp [taken])]
  exact if_pos error

/-! ### Bytes that the receiver does not take (R167) -/

/-- A byte begun while DE was asserted, or ended while it is, changes nothing. -/
theorem hostByte_notTaken {b : HostByte} {s : State} (h : b.underDe = true ∨ deAsserted s = true) : hostByte b s = s := by
  rw [hostByte, if_pos]
  simpa [notTaken] using h

/-- The bytes begun while DE was asserted may as well not have come. -/
theorem hostBytes_filter (bytes : List HostByte) (s : State) : hostBytes (bytes.filter fun b => !b.underDe) s = hostBytes bytes s := by
  induction bytes generalizing s with
  | nil => rfl
  | cons b bytes ih =>
    cases begun : b.underDe with
    | true =>
      rw [List.filter_cons_of_neg (by simp [begun]), ih]
      exact (congrArg (hostBytes bytes) (hostByte_notTaken (.inl begun))).symm
    | false =>
      rw [List.filter_cons_of_pos (by simp [begun])]
      exact ih (hostByte b s)

/-- Bytes none of which is taken change nothing. -/
theorem hostBytes_notTaken {bytes : List HostByte} {s : State} (h : deAsserted s = true ∨ ∀ b ∈ bytes, b.underDe = true) :
    hostBytes bytes s = s :=
  List.foldlRecOn (motive := fun t => t = s) bytes _ rfl fun t ht b hb => by
    rw [ht]
    exact hostByte_notTaken (h.symm.imp (fun under => under b hb) id)

/-- Settles O29: the frame is open until the byte that damages it, or until the quiet that ends it. -/
theorem damagedFramesCounted : Obligations.DamagedFramesCounted := by
  refine ⟨fun code r s running rx de reach fits => ?_, fun bytes quiet s => ?_, fun bytes s h => ?_⟩
  · have received : ∀ frame, FrameOpen frame → (∀ a ∈ frame.head?, a = r.address) →
        hostBytes ((0xC3#8 :: frame).map hostByteOf) s = setRx (.receive frame) s := fun frame isOpen own =>
      hostBytes_received rx de (fun a ha => own a ha ▸ reach) isOpen
    refine ⟨fun c0 c1 wrong => ?_, fun len long => ?_, fun n b one cut begun error => ?_, fun n one cut => ?_⟩
    · have split : requestBytes code r = (0xC3#8 :: requestBody code r) ++ crcBytes (crc16 (requestBody code r)) := rfl
      have length : 5 + r.payload.length = (0xC3#8 :: requestBody code r).length := by simp [requestBody]; omega
      rw [split, length, List.drop_left] at wrong
      rw [exec_requestFrameDropped running, split, length, List.take_left, List.cons_append, hostBytes_frame rx de fits reach,
        frameEnded_unsound (requestBody_unsound fits wrong), crcAbandon_counts rx]
    · have opened := received [r.address, r.tag, code] (fun four => absurd four (by simp)) fun a ha => (Option.some.inj ha).symm
      have dropped : receivePlace [r.address, r.tag, code, len] (setRx (.receive [r.address, r.tag, code]) s) =
          crcAbandon (setRx (.receive [r.address, r.tag, code]) s) := if_pos ⟨rfl, long⟩
      have head : (requestBytes code r).take 4 = 0xC3#8 :: [r.address, r.tag, code] := rfl
      rw [exec_requestFrameDropped running, head, hostBytes_concat opened,
        hostByte_placed (s := setRx (.receive [r.address, r.tag, code]) s) len de rfl (by simp)]
      exact congrArg _ (dropped.trans (crcAbandon_counts rx _))
    · obtain ⟨frame, bytes, isOpen, own⟩ := requestBytes_cut fits one cut
      rw [exec_requestFrameDropped running, hostBytes_append, bytes, received frame isOpen own]
      exact congrArg _ ((hostByte_error de begun error).trans (parityAbandon_counts rx _))
    · obtain ⟨frame, bytes, isOpen, own⟩ := requestBytes_cut fits one cut
      rw [exec_frameTimeout running, bytes, received frame isOpen own, quietPassed_counts rx]
  · have same : hostBytes bytes = hostBytes (bytes.filter fun b => !b.underDe) := funext fun t => (hostBytes_filter bytes t).symm
    simp only [exec, execRequestFrameDropped, execFrameTimeout, execMutedFrame, ← same, and_self]
  · have sending : deAsserted s = true ∨ ∀ b ∈ bytes, b.underDe = true := h.imp_left (deAsserted_iff s).mpr
    have unchanged : live (hostBytes bytes) s = .next s := by rw [live, hostBytes_notTaken sending, ite_self]
    exact unchanged

end Sys2Proof.Machine
end

section
/-! PROOFS. The requests and the pulses of the event queue: EVENTS, an arrival, and the attention line (R53, R181 to R187, section 12.6). -/

namespace Sys2Proof.Machine

/-! ### EVENTS (R183, section 12.6) -/

theorem eventsServe_within {m : Byte} (low : 1 ≤ m.toNat) (high : m.toNat ≤ 16) (s : State) :
    eventsServe [m] s = accepted { s with events := s.events.fetch m.toNat } (fetchedBytes m.toNat s.events) := by
  simp only [eventsServe, inRange_mem ⟨low, high⟩]

theorem eventsServe_outside {m : Byte} (h : m.toNat = 0 ∨ 16 < m.toNat) (s : State) : eventsServe [m] s = refuse s .badValue := by
  have outside : inRange 1 16 m.toNat = none := if_neg (by omega)
  simp only [eventsServe, outside]

theorem fetchedBytes_eq (n : Nat) (q : EventQueue) : fetchedBytes n q =
    [if q.overflow then 1#8 else 0#8, BitVec.ofNat 8 (min n q.list.length), BitVec.ofNat 8 (q.list.length - n)]
      ++ (q.list.take n).flatMap eventBytes := by
  rw [fetchedBytes, List.length_take, List.length_drop]
  rfl

/-- The lane byte of an event of a lane is the lane's number, 1 to 10 (section 12.6). -/
theorem eventBytes_lane {e : Event} {l : LaneIx} (h : e.lane = some l) : eventBytes e =
    eventKindCode e.kind :: be32 e.time ++ [BitVec.ofNat 8 (l.val + 1)] ++ be16 e.attempt ++ be32 e.value := by
  simp only [eventBytes, h]
  rfl

/-- The lane byte of an event of no lane is 0 (section 12.6). -/
theorem eventBytes_noLane {e : Event} (h : e.lane = none) : eventBytes e =
    eventKindCode e.kind :: be32 e.time ++ [0#8] ++ be16 e.attempt ++ be32 e.value := by
  simp only [eventBytes, h]
  rfl

/-- Settles O9: the owner of EVENTS answers from the queue and fetches, or its max is out of range. -/
theorem eventsFetched : Obligations.EventsFetched := by
  refine ⟨fun s r m hs hp => ⟨fun low high => ?_, fun outside => ?_⟩, fun e => ?_⟩
  · rw [← fetchedBytes_eq]
    exact hs.accepted .events rfl hp rfl (by decide) (eventsServe_within low high s) rfl
  · exact hs.refused .events rfl hp rfl (by decide) (eventsServe_outside outside s)
  · obtain ⟨kind, time, lane, attempt, value⟩ := e
    cases lane with
    | some l => rw [eventBytes_lane rfl]; cases kind <;> rfl
    | none => rw [eventBytes_noLane rfl]; cases kind <;> rfl

/-! ### The attention line (R185, R186) -/

theorem attnAsserted_pulse {s : State} (h : s.events.pulse = true) : attnAsserted s = true := by
  simp [attnAsserted, h]

theorem attnAsserted_level {s : State} (mode : s.line.attnMode = .level) :
    attnAsserted s = true ↔ s.events.pulse = true ∨ s.events.list ≠ [] := by
  simp [attnAsserted, mode]

theorem attnAsserted_pulseMode {s : State} (mode : s.line.attnMode = .pulse) : attnAsserted s = s.events.pulse := by
  simp [attnAsserted, mode]

/-! ### The pulses (R186) -/

theorem exec_attnPulseStart {s : State} (running : s.resetHeld = false) : exec .attnPulseStart s = .next (attnPulseStartStep s) :=
  live_running _ running

theorem exec_attnPulseEnd {s : State} (running : s.resetHeld = false) : exec .attnPulseEnd s = .next (attnPulseEndStep s) :=
  live_running _ running

theorem attnPulseStartStep_begins {s : State} (mode : s.line.attnMode = .pulse) (owed : 0 < s.events.owed)
    (free : s.events.pulse = false) (first : s.events.pulseThisTick = false) : attnPulseStartStep s =
      { s with events := { s.events with owed := s.events.owed - 1, pulse := true, pulseThisTick := true } } :=
  if_pos ⟨mode, owed, free, first⟩

/-- No pulse begins with none owed, with one under way, or with one begun in this tick. -/
theorem attnPulseStartStep_waits {s : State} (h : s.events.owed = 0 ∨ s.events.pulse = true ∨ s.events.pulseThisTick = true) :
    attnPulseStartStep s = s := by
  refine if_neg fun ⟨_, owed, free, first⟩ => ?_
  rcases h with none | under | begun
  · exact absurd none owed.ne'
  · simp [under] at free
  · simp [begun] at first

theorem attnPulseStartStep_level {s : State} (mode : s.line.attnMode = .level) : attnPulseStartStep s = s :=
  if_neg fun h => by simp [mode] at h

/-- Settles O45: an arrival with room and without it, the two pulse commands, and the line in either mode. -/
theorem eventsAndPulses : Obligations.EventsAndPulses := by
  refine ⟨fun s kind lane attempt value => ?_, fun s running mode => ⟨fun owed free first => ?_, fun waits => ?_⟩,
    fun s running mode => ?_, fun s => attnAsserted_pulse, fun s running => ?_⟩
  · refine ⟨_, rfl, fun room => ?_, fun full => ?_⟩
    · have held : (place kind lane attempt value s).events.list ≠ [] := by simp [place, arrive_room _ _ room]
      rw [arrive_room _ _ room]
      exact ⟨rfl, rfl, rfl, by cases s.line.attnMode <;> rfl,
        fun mode => (attnAsserted_level (s := place kind lane attempt value s) mode).mpr (.inr held)⟩
    · have lost : place kind lane attempt value s = { s with events := { s.events with overflow := true } } := by
        rw [place, arrive_full _ _ full]
      exact ⟨arrive_full _ _ full, by rw [lost]; rfl⟩
  · rw [exec_attnPulseStart running, attnPulseStartStep_begins mode owed free first]
  · rw [exec_attnPulseStart running, attnPulseStartStep_waits waits]
  · rw [exec_attnPulseStart running, attnPulseStartStep_level mode]
  · refine ⟨_, exec_attnPulseEnd running, rfl, fun mode => ?_, fun mode => attnAsserted_pulseMode (s := attnPulseEndStep s) mode⟩
    have asserted := attnAsserted_level (s := attnPulseEndStep s) mode
    simpa [attnPulseEndStep] using asserted

end Sys2Proof.Machine
end

section
/-! PROOFS. The events that a command places: what every command other than EVENTS, LINE_SET, the pulses of ATTN, a tick, the load of an
image and a reset does to the event queue (R180 to R182). -/

namespace Sys2Proof.Machine

/-- Events arrive at the queue one after another, and nothing else happens to it; the line settings, and with them the ATTN mode, stay. -/
structure EventsArrive (s t : State) : Prop where
  line    : t.line = s.line
  arrived : ∃ es, t.events = arriveAll s.line.attnMode es s.events

namespace EventsArrive

/-- A step that writes neither the queue nor the line settings. -/
theorem quiet {s t : State} (line : t.line = s.line) (events : t.events = s.events) : EventsArrive s t := ⟨line, [], events⟩

theorem refl (s : State) : EventsArrive s s := quiet rfl rfl

theorem trans {a b c : State} (h : EventsArrive a b) (k : EventsArrive b c) : EventsArrive a c := by
  obtain ⟨es, first⟩ := h.arrived
  obtain ⟨fs, second⟩ := k.arrived
  exact ⟨k.line.trans h.line, es ++ fs, by rw [second, first, h.line, arriveAll_append]⟩

/-- What arrives after a step that writes neither the queue nor the line settings. -/
theorem after {a b c : State} (k : EventsArrive b c) (line : b.line = a.line) (events : b.events = a.events) : EventsArrive a c :=
  (quiet line events).trans k

theorem onlyRecords {s t : State} (h : OnlyRecords s t) : EventsArrive s t := quiet h.line h.events

theorem forLanes {f : LaneIx → State → State} (h : ∀ l t, EventsArrive t (f l t)) (ls : List LaneIx) (s : State) :
    EventsArrive s (forLanes ls f s) := forLanes_induct (P := EventsArrive s) ls (.refl s) fun l _ t ht => ht.trans (h l t)

theorem forPorts {f : PortIx → State → State} (h : ∀ p t, EventsArrive t (f p t)) (ps : List PortIx) (s : State) :
    EventsArrive s (forPorts ps f s) := forPorts_induct (P := EventsArrive s) ps (.refl s) fun p _ t ht => ht.trans (h p t)

/-- An event placed is one arrival (R181). -/
theorem place (k : EventKind) (l : Option LaneIx) (a : Nat) (v : BitVec 32) (s : State) : EventsArrive s (place k l a v s) :=
  ⟨rfl, [_], rfl⟩

theorem changeRecord (id : Nat) (f : Record → Record) (s : State) : EventsArrive s (changeRecord id f s) :=
  .onlyRecords (.changeRecord id f s)

/-! ### The verdict unit (R134 to R147) -/

theorem lampOn (l : LaneIx) (s : State) : EventsArrive s (lampOn l s) := by
  unfold Machine.lampOn
  split
  · exact .refl s
  · split <;> exact .quiet rfl rfl

theorem lampOff (p : PortIx) (s : State) : EventsArrive s (lampOff p s) := by
  unfold Machine.lampOff; split <;> exact .quiet rfl rfl

/-- A pulse of RECALL places its RECALL_SENT (R13). -/
theorem pulseRequest (manual : Bool) (id : Nat) (s : State) : EventsArrive s (pulseRequest manual id s) :=
  (place _ _ _ _ _).after rfl rfl

theorem autoRecall (s : State) : EventsArrive s (autoRecall s) := by
  unfold Machine.autoRecall
  split
  · exact .refl s
  · split
    · exact (changeRecord _ _ s).trans (pulseRequest _ _ _)
    · exact .refl s

/-- A false start places its event, and may bring a recall and its event (R145, R147). -/
theorem falseActs (l : LaneIx) (rt : Option Int) (s : State) : EventsArrive s (falseActs l rt s) := by
  unfold Machine.falseActs
  split
  · exact .refl s
  · have placed := fun a v => place .falseStart (some l) a v s
    simp only
    split
    · exact (placed _ _).trans ((lampOn l _).trans (autoRecall _))
    · exact placed _ _

theorem reportJudge (l : LaneIx) (onset : Time) (rt : Int) (f : LaneFlags) (s : State) :
    EventsArrive s (reportJudge l onset rt f s) := by
  unfold Machine.reportJudge
  split
  · exact .refl s
  · split
    · split
      · exact (changeRecord _ _ s).trans (falseActs _ _ _)
      · exact changeRecord _ _ s
    · exact .onlyRecords (.reportFlags l f s)

theorem reportHeld (l : LaneIx) (c : Crossing) (s : State) : EventsArrive s (reportHeld l c s) := by
  unfold Machine.reportHeld
  split
  · exact .refl s
  · simp only
    split
    · exact (changeRecord _ _ s).trans (falseActs _ _ _)
    · exact .onlyRecords (.reportFlags _ _ s)

/-! ### The onset detectors (R105 to R129) -/

theorem finalize (l : LaneIx) (s : State) : EventsArrive s (finalize l s) :=
  .onlyRecords ((OnlyRecords.setDetector s l _).trans (.reportBaseline _ _ _ _ _))

theorem captureEntry (l : LaneIx) (e : Entry) (s : State) : EventsArrive s (captureEntry l e s) := by
  unfold Machine.captureEntry
  simp only
  split
  · exact (finalize l _).after rfl rfl
  · exact .quiet rfl rfl

/-- An unsteady lane is reported and places UNSTEADY (R113, R114). -/
theorem unsteadyTest (l : LaneIx) (e : Entry) (s : State) : EventsArrive s (unsteadyTest l e s) := by
  unfold Machine.unsteadyTest
  simp only
  split
  · exact .refl s
  · split
    · exact .refl s
    · split
      · split
        · exact (onlyRecords ((OnlyRecords.setDetector s l _).trans (.reportFlags _ _ _))).trans (place _ _ _ _ _)
        · exact .quiet rfl rfl
      · exact .quiet rfl rfl

/-- A crossing confirmed places CHECK_FAULT when the walk met a failed entry, then is judged or places EARLY_MOVE (R67, R121, R122). -/
theorem confirm (l : LaneIx) (s : State) : EventsArrive s (confirm l s) := by
  have fault : ∀ w : Walk, EventsArrive s (match w.fault with | some i => checkFault l i s | none => s) := fun w => by
    cases w.fault with
    | none => exact .refl s
    | some i => exact place _ _ _ _ s
  unfold Machine.confirm
  simp only
  split
  · split
    · exact (fault _).trans ((reportJudge _ _ _ _ _).after rfl rfl)
    · exact (fault _).trans ((place _ _ _ _ _).after rfl rfl)
  · exact .refl s

theorem countCrossing (l : LaneIx) (d : Detector) (s : State) : EventsArrive s (countCrossing l d s) := by
  unfold Machine.countCrossing
  simp only
  split
  · exact (confirm l _).after rfl rfl
  · exact .quiet rfl rfl

/-- An entry offered to a detector, in whatever state the detector is (R105). -/
theorem offerEntry (l : LaneIx) (e : Entry) (index : Option Nat) (s : State) : EventsArrive s (offerEntry l e index s) := by
  unfold Machine.offerEntry
  split
  · split
    · exact .refl s
    · exact captureEntry l e s
  · refine (unsteadyTest l e s).trans ?_
    unfold crossingTest
    simp only
    split
    · exact .refl _
    · split
      · exact countCrossing l _ _
      · exact .refl _
  · unfold persistenceEntry
    simp only
    split
    · exact .refl s
    · split
      · exact countCrossing l _ s
      · exact .quiet rfl rfl
  all_goals exact .refl s

/-- What a detector does when the shot is fired (R111, R125). -/
theorem shotFired (t0 : Time) (l : LaneIx) (s : State) : EventsArrive s (shotFired t0 l s) := by
  have unsure := fun d f => onlyRecords ((OnlyRecords.setDetector s l d).trans (.reportUnsure l f _))
  unfold Machine.shotFired
  simp only
  split
  · split
    · exact unsure _ _
    · exact .quiet rfl rfl
  · exact unsure _ _
  · split
    · exact unsure _ _
    · exact (finalize l _).after rfl rfl
  · exact .quiet rfl rfl
  · exact .quiet rfl rfl
  · split
    · exact .quiet rfl rfl
    · exact (reportJudge _ _ _ _ _).after rfl rfl

theorem standDetector (l : LaneIx) (s : State) : EventsArrive s (standDetector l s) := by
  unfold Machine.standDetector
  split
  · exact reportHeld l _ s
  · exact .refl s

/-! ### The lane link ports (R26 to R40) -/

theorem failZero (l : LaneIx) (reason : BitVec 32) (s : State) : EventsArrive s (failZero l reason s) := by
  unfold Machine.failZero
  split
  · exact .refl s
  · exact (place _ _ _ _ _).after rfl rfl

theorem zeroTimeoutStep (l : LaneIx) (s : State) : EventsArrive s (zeroTimeoutStep l s) := by
  unfold Machine.zeroTimeoutStep
  split
  · exact .refl s
  · split
    · exact failZero l _ s
    · exact .refl s

theorem linkReset (p : PortIx) (lane : Option LaneIx) (s : State) : EventsArrive s (linkReset p lane s) := by
  unfold Machine.linkReset
  cases lane with
  | none => exact .quiet rfl rfl
  | some l =>
    simp only
    split
    · exact (failZero l _ _).after rfl rfl
    · exact .quiet rfl rfl

theorem portStreamEnded (p : PortIx) (lane : Option LaneIx) (s : State) : EventsArrive s (portStreamEnded p lane s) :=
  .onlyRecords (.portStreamEnded p lane s)

theorem tableReset (p : PortIx) (before lane : Option LaneIx) (s : State) : EventsArrive s (tableReset p before lane s) := by
  unfold Machine.tableReset
  split
  · exact (portStreamEnded p before s).trans (linkReset p lane _)
  · exact .refl s

/-- A link lost places LINK_LOST, and its reset may end a ZERO (R34, R40, R77). -/
theorem enterLost (p : PortIx) (s : State) : EventsArrive s (enterLost p s) :=
  ((place _ _ _ _ s).trans (portStreamEnded p _ _)).trans (linkReset p _ _)

theorem enterAbsent (p : PortIx) (s : State) : EventsArrive s (enterAbsent p s) := by
  have notice : EventsArrive s (if (s.port p).link = .streaming
      then Machine.portStreamEnded p (mappedLane s p) (linkEvent .linkLost p s) else s) := by
    split
    · exact (place _ _ _ _ s).trans (portStreamEnded p _ _)
    · exact .refl s
  unfold Machine.enterAbsent
  simp only
  generalize (if (s.port p).link = .streaming then _ else s) = t at notice ⊢
  cases mappedLane s p with
  | none => exact notice.trans (.quiet rfl rfl)
  | some l =>
    simp only
    split
    · exact notice.trans ((failZero l _ _).after rfl rfl)
    · exact notice.trans (.quiet rfl rfl)

/-- A link that comes up places LINK_UP (R30, R40). -/
theorem enterStreaming (p : PortIx) (s : State) : EventsArrive s (enterStreaming p s) := (place _ _ _ _ _).after rfl rfl

theorem completeHello (p : PortIx) (s : State) : EventsArrive s (completeHello p s) := by
  unfold Machine.completeHello
  split
  · exact (enterStreaming p _).after rfl rfl
  · exact .refl s

theorem silenceEndStep (p : PortIx) (s : State) : EventsArrive s (silenceEndStep p s) := by
  unfold Machine.silenceEndStep
  split
  · exact enterLost p s
  · exact .refl s

theorem helloWaitEndStep (p : PortIx) (s : State) : EventsArrive s (helloWaitEndStep p s) := by
  unfold Machine.helloWaitEndStep
  split
  · exact linkReset p _ s
  · exact .refl s

theorem presenceActiveStep (p : PortIx) (s : State) : EventsArrive s (presenceActiveStep p s) := by
  unfold Machine.presenceActiveStep
  simp only
  split
  · split
    · exact (linkReset p _ _).after rfl rfl
    · exact .quiet rfl rfl
  · exact .refl s

theorem presenceInactiveStep (p : PortIx) (s : State) : EventsArrive s (presenceInactiveStep p s) := by
  unfold Machine.presenceInactiveStep
  simp only
  split
  · split
    · exact (enterAbsent p _).after rfl rfl
    · exact .quiet rfl rfl
  · exact .refl s

theorem firstPresence (pins : Pins) (p : PortIx) (s : State) : EventsArrive s (firstPresence pins p s) := by
  unfold Machine.firstPresence
  simp only
  split
  · exact (linkReset p _ _).after rfl rfl
  · exact .quiet rfl rfl

theorem outboundFrameSentStep (p : PortIx) (s : State) : EventsArrive s (outboundFrameSentStep p s) := by
  unfold Machine.outboundFrameSentStep; split <;> exact .quiet rfl rfl

theorem breakEndStep (p : PortIx) (s : State) : EventsArrive s (breakEndStep p s) := by
  unfold Machine.breakEndStep; split <;> exact .quiet rfl rfl

/-! ### Samples and link frames (R21 to R25, R30, R33, R57 to R60, R75) -/

/-- The 64th commit of a ZERO places ZERO_DONE (R75). -/
theorem zeroCommit (l : LaneIx) (s : State) : EventsArrive s (zeroCommit l s) := by
  unfold Machine.zeroCommit
  split
  · exact .refl s
  · simp only
    split
    · exact (place _ _ _ _ _).after rfl rfl
    · exact .quiet rfl rfl

theorem setAssembler (s : State) (l : LaneIx) (a : Assembler) : EventsArrive s (s.setAssembler l a) := .quiet rfl rfl

/-- A commit offers its entry to the detector and to a ZERO in flight (R60). -/
theorem commit (l : LaneIx) (s : State) : EventsArrive s (commit l s) :=
  .trans ((offerEntry l (committedEntry l s) _ (s.setRing l _)).after (a := s) rfl rfl) ((zeroCommit l _).trans (setAssembler _ l _))

theorem takeSample (l : LaneIx) (x : Sample) (s : State) : EventsArrive s (takeSample l x s) := by
  unfold Machine.takeSample
  simp only
  split
  · exact (commit l _).after rfl rfl
  · exact .quiet rfl rfl

theorem sampleTaken (p : PortIx) (c : Chan) (seq : BitVec 4) (raw : BitVec 16) (overload : Bool) (s : State) :
    EventsArrive s (sampleTaken p c seq raw overload s) := by
  unfold Machine.sampleTaken
  simp only
  split
  · split
    · exact (takeSample _ _ _).after rfl rfl
    · exact .quiet rfl rfl
  · exact .refl s

theorem badFrame (parity : Bool) (p : PortIx) (s : State) : EventsArrive s (badFrame parity p s) := by
  rw [badFrame_eq]
  split
  · exact (enterLost p _).after rfl rfl
  · exact .quiet rfl rfl

theorem helloTaken (p : PortIx) (channels : Nat) (s : State) : EventsArrive s (helloTaken p channels s) := by
  unfold Machine.helloTaken
  simp only
  split
  · split
    · exact .quiet rfl rfl
    · exact (enterStreaming p _).after rfl rfl
  · split
    · split
      · exact enterLost p s
      · exact .refl s
    · exact .refl s
  all_goals exact .refl s

theorem useFrame (p : PortIx) (u : LinkUse) (s : State) : EventsArrive s (useFrame p u s) := by
  cases u with
  | sample c seq raw overload => exact sampleTaken p c seq raw overload s
  | hello channels => exact helloTaken p channels s
  | alive => unfold Machine.useFrame aliveTaken; simp only; split <;> exact .quiet rfl rfl
  | discarded => exact .refl s

theorem frameComplete (p : PortIx) (error early : Bool) (b0 b1 b2 b3 : Byte) (s : State) :
    EventsArrive s (frameComplete p error early b0 b1 b2 b3 s) := by
  unfold Machine.frameComplete
  split
  · exact .refl s
  · split
    · exact badFrame true p s
    · split
      · exact (useFrame p _ _).after rfl rfl
      · exact badFrame false p s

theorem frameCut (p : PortIx) (error early : Bool) (s : State) : EventsArrive s (frameCut p error early s) := by
  unfold Machine.frameCut
  split
  · exact .refl s
  · exact badFrame error p s

theorem linkByte (p : PortIx) (early : Bool) (b : RxByte) (s : State) : EventsArrive s (linkByte p early b s) := by
  have begun : ∀ t, EventsArrive t (beginFrame p b early t) := fun _ => .quiet rfl rfl
  have emptied : EventsArrive s (setInbound p inboundEmpty s) := .quiet rfl rfl
  unfold Machine.linkByte
  simp only
  split
  · exact .refl s
  · split
    · split
      · exact begun s
      · exact (emptied.trans (frameCut p _ _ _)).trans (begun _)
    · split
      · exact .refl s
      · exact emptied.trans (frameComplete p _ _ _ _ _ _ _)
      · exact .quiet rfl rfl

theorem linkReceive (p : PortIx) (rx : LinkRx) (s : State) : EventsArrive s (linkReceive p rx s) :=
  List.foldlRecOn (motive := EventsArrive s) rx.bytes _ (.refl s) fun _ ht b _ => ht.trans (linkByte p rx.early b _)

/-! ### The pistol and the attempt (R5 to R8, R88 to R98) -/

/-- The start of the attempt places SHOT, and the detectors of its lanes report (R93). -/
theorem startAttempt (te : Time) (r : Record) (s : State) : EventsArrive s (startAttempt te r s) := by
  unfold Machine.startAttempt
  refine .trans ?_ (forLanes (shotFired te) r.lanes _)
  exact (changeRecord r.id _ s).trans ((place .shot none r.id te _).after rfl rfl)

/-- Whatever an accepted shot means, it places events alone: SHOT with the reports of the detectors, RECALL_SHOT, or UNARMED_SHOT
(R93 to R95). -/
theorem shotMeaning (te : Time) (s : State) : EventsArrive s (shotMeaning te s) := by
  have recalled : ∀ r, EventsArrive s (recallShot te r s) := fun r => (changeRecord r.id _ s).trans (place _ _ _ _ _)
  have unarmed : EventsArrive s (unarmedShot s) := place _ _ _ _ s
  unfold Machine.shotMeaning
  split
  · split
    · split
      · exact startAttempt te _ s
      · exact unarmed
    · exact recalled _
    · exact unarmed
  · split
    · exact recalled _
    · exact unarmed

theorem pistolEdgeStep (s : State) : EventsArrive s (pistolEdgeStep s) := by
  unfold Machine.pistolEdgeStep; split <;> exact .quiet rfl rfl

theorem shotAcceptedStep (s : State) : EventsArrive s (shotAcceptedStep s) := by
  unfold Machine.shotAcceptedStep
  split
  · split
    · exact ((shotMeaning _ s.pistolHeld).after (a := s) rfl rfl).trans (.quiet rfl rfl)
    · exact .refl s
  · exact .refl s

theorem glitchStep (s : State) : EventsArrive s (glitchStep s) := by
  unfold Machine.glitchStep
  split
  · split
    · exact (place _ _ _ _ _).after rfl rfl
    · exact .refl s
  · exact .refl s

theorem pistolHoldEndStep (s : State) : EventsArrive s (pistolHoldEndStep s) := by
  unfold Machine.pistolHoldEndStep; split <;> exact .quiet rfl rfl

theorem recallPulseEndStep (s : State) : EventsArrive s (recallPulseEndStep s) := by
  unfold Machine.recallPulseEndStep; split <;> exact .quiet rfl rfl

theorem settleEndStep (s : State) : EventsArrive s (settleEndStep s) := by
  unfold Machine.settleEndStep; split <;> exact .quiet rfl rfl

theorem recallShotEndStep (s : State) : EventsArrive s (recallShotEndStep s) := by
  unfold Machine.recallShotEndStep; split <;> exact .quiet rfl rfl

theorem heldAgeEndStep (l : LaneIx) (s : State) : EventsArrive s (heldAgeEndStep l s) := by
  unfold Machine.heldAgeEndStep; split <;> exact .quiet rfl rfl

/-- The close of an attempt places its event (R96, R97). -/
theorem closeAttempt (kind : EventKind) (f : Record → Record) (q : Sequencer → Sequencer) (id : Nat) (lanes : List LaneIx) (s : State) :
    EventsArrive s (closeAttempt kind f q id lanes s) := by
  have told : ∀ x, EventsArrive s { s.mapDetectors lanes Detector.close with seq := x } := fun _ => .quiet rfl rfl
  have frozen : ∀ t, EventsArrive t (t.mapRings lanes (Ring.freeze id)) := fun _ => .quiet rfl rfl
  unfold Machine.closeAttempt
  exact (((told _).trans (changeRecord id f _)).trans (frozen _)).trans (place kind none id _ _)

/-- STAND places the false starts of its held crossings, then ABORTED (R96). -/
theorem standClose (r : Record) (s : State) : EventsArrive s (standClose r s) := by
  rw [standClose_eq]
  exact ((forLanes standDetector r.lanes s).trans (changeRecord r.id Record.voidPending _)).trans (closeAttempt _ _ _ _ _ _)

/-- The window close places DECIDED (R97). -/
theorem windowClose (r : Record) (s : State) : EventsArrive s (windowClose r s) := by
  have closes : Machine.windowClose r s = Machine.closeAttempt .decided (Record.decidedAt s.clock)
      (Sequencer.windowClosed (r.t0.getD 0#32)) r.id r.lanes (Machine.forLanes r.lanes endWatch s) := by
    simp only [Machine.windowClose, Machine.closeAttempt, changeRecord_eq]
    rfl
  rw [closes]
  exact (forLanes (fun l t => onlyRecords (.endWatch l t)) r.lanes s).trans (closeAttempt _ _ _ _ _ _)

theorem windowCloseStep (s : State) : EventsArrive s (windowCloseStep s) := by
  unfold Machine.windowCloseStep
  split
  · split
    · split
      · exact windowClose _ s
      · exact .refl s
    · exact .refl s
  · exact .refl s

theorem setAccepted (r : Record) (s : State) : EventsArrive s (setAccepted r s) := by
  unfold Machine.setAccepted
  simp only
  split <;> exact (changeRecord r.id _ s).trans (.quiet rfl rfl)

/-- MARKS places the ZERO_FAIL events of the ZEROs that it ends, and no other event (R78, R88). -/
theorem marksAccepted (heat : Nat) (lanes : List LaneIx) (s : State) : EventsArrive s (marksAccepted heat lanes s) := by
  have created : EventsArrive s (createRecord heat lanes s) := by rw [createRecord, removeOldest_eq]; exact .quiet rfl rfl
  have released : ∀ t, EventsArrive t (releaseRings t) := fun _ => .quiet rfl rfl
  have told : ∀ l t, EventsArrive t (marksLink l t) := fun l t => by
    unfold marksLink
    split
    · exact .refl t
    · exact .onlyRecords (.streamEnded l t)
  have prepared : ∀ t, EventsArrive t (t.mapDetectors lanes (Detector.prepare s.seq.nextId)) := fun _ => .quiet rfl rfl
  have failed := created.trans (forLanes (fun l => failZero l 3#32) lanes _)
  rw [marksAccepted_eq]
  exact ((failed.trans (released _)).trans ((forPorts lampOff allPorts _).trans (prepared _))).trans (forLanes told lanes _)

/-! ### The store port (R191, R192, R195) -/

/-- The end of the load with the tables in force places the LINK_UP events of the pending hellos (R192). -/
theorem endLoad_none (outcome : StoreState) (marker : Option Nat) (s : State) : EventsArrive s (endLoad outcome none marker s) := by
  unfold endLoad
  exact (forPorts completeHello allPorts _).after rfl (if_pos rfl)

theorem loadDeadlineStep (s : State) : EventsArrive s (loadDeadlineStep s) := by
  unfold Machine.loadDeadlineStep
  split
  · exact endLoad_none _ _ s
  · exact .refl s

theorem loadAddressStep (s : State) : EventsArrive s (loadAddressStep s) := by
  unfold Machine.loadAddressStep; split <;> exact .quiet rfl rfl

theorem beginSave (image : List Byte) (s : State) : EventsArrive s (beginSave image s) := by
  unfold Machine.beginSave; split <;> exact .quiet rfl rfl

theorem saveTakenStep (s : State) : EventsArrive s (saveTakenStep s) := by
  unfold Machine.saveTakenStep; split <;> exact .quiet rfl rfl

/-- The last poll acknowledged places STORE_DONE (R195). -/
theorem saveStoredStep (s : State) : EventsArrive s (saveStoredStep s) := by
  unfold Machine.saveStoredStep
  split
  · split
    · exact .quiet rfl rfl
    · split
      · exact (place _ _ _ _ _).after rfl rfl
      · exact .quiet rfl rfl
  · exact .refl s

/-- A save that fails places STORE_FAIL (R195). -/
theorem saveDeadlineStep (s : State) : EventsArrive s (saveDeadlineStep s) := by
  unfold Machine.saveDeadlineStep
  split
  · split
    · exact (place _ _ _ _ _).after rfl rfl
    · exact .refl s
  · exact .refl s

/-! ### A tick -/

theorem takePistol (s : State) : EventsArrive s (takePistol s) :=
  (pistolEdgeStep s).trans ((shotAcceptedStep _).trans ((glitchStep _).trans (pistolHoldEndStep _)))

theorem takeLinks (s : State) : EventsArrive s (takeLinks s) :=
  ((forPorts (fun p t => (presenceActiveStep p t).trans (presenceInactiveStep p _)) allPorts s).trans
    (forPorts breakEndStep allPorts _)).trans ((forPorts silenceEndStep allPorts _).trans (forPorts helloWaitEndStep allPorts _))

theorem takeTimers (s : State) : EventsArrive s (takeTimers s) :=
  (((recallPulseEndStep s).trans (forLanes zeroTimeoutStep allLanes _)).trans (settleEndStep _)).trans
    ((windowCloseStep _).trans ((recallShotEndStep _).trans (forLanes heldAgeEndStep allLanes _)))

/-- Everything that a TICK takes but the reply places events alone (entry 4). -/
theorem takeEvents (s : State) : EventsArrive s (takeEvents s) :=
  (((takePistol s).trans (takeLinks _)).trans (takeTimers _)).trans ((loadDeadlineStep _).trans (saveDeadlineStep _))

/-- The first tick brings link resets and the load (R197). -/
theorem firstTick (pins : Pins) (s : State) : EventsArrive s (firstTick pins s) := by
  have load : ∀ t, EventsArrive t (beginLoad t) := fun _ => .quiet rfl rfl
  unfold Machine.firstTick
  refine .trans (.trans ?_ (forPorts (firstPresence pins) allPorts _)) (load _)
  exact .quiet rfl rfl

/-! ### The owners of the requests (R173) -/

theorem laneSetAccepted (l : LaneIx) (e : LaneEntry) (s : State) : EventsArrive s (laneSetAccepted l e s) := by
  have reset : ∀ o before lane t, EventsArrive t (resetPort o before lane t) := fun o before lane t => by
    cases o with
    | none => exact .refl t
    | some p => exact tableReset p before lane t
  unfold Machine.laneSetAccepted
  refine after (b := s.setLane l e) ?_ rfl rfl
  rw [laneSetResets_eq]
  split
  · split
    · exact reset _ _ _ _
    · exact .refl _
  · exact (reset _ _ _ _).trans (reset _ _ _ _)

theorem traceFaults (l : LaneIx) (read : List (Nat × Slot)) (s : State) : EventsArrive s (traceFaults l read s) :=
  List.foldlRecOn (motive := EventsArrive s) _ _ (.refl s) fun _ ht _ _ => ht.trans (place _ _ _ _ _)

theorem laneSetServe (payload : List Byte) (s : State) : EventsArrive s (laneSetServe payload s).state := by
  unfold Machine.laneSetServe
  split
  · split
    · split
      · exact .refl s
      · split
        · exact .refl s
        · exact laneSetAccepted _ _ s
    · exact .refl s
  · exact .refl s

theorem marksRequest (payload : List Byte) (s : State) : EventsArrive s (marksRequest payload s).state := by
  unfold Machine.marksRequest
  split
  · split
    · exact .refl s
    · iterate 2 (split; · exact .refl s)
      exact marksAccepted _ _ s
  · exact .refl s

theorem setRequest (payload : List Byte) (s : State) : EventsArrive s (setRequest payload s).state := by
  unfold Machine.setRequest
  split
  · split
    · exact setAccepted _ s
    · exact .refl s
  all_goals exact .refl s

theorem standRequest (payload : List Byte) (s : State) : EventsArrive s (standRequest payload s).state := by
  unfold Machine.standRequest
  split
  · split
    · exact standClose _ s
    · exact .refl s
  all_goals exact .refl s

theorem recallServe (payload : List Byte) (s : State) : EventsArrive s (recallServe payload s).state := by
  unfold Machine.recallServe
  split
  · split
    · exact (changeRecord _ _ s).trans (pulseRequest _ _ _)
    · exact .refl s
  · exact .refl s

/-- RULE writes the record and the reservation (R152, R156). -/
theorem ruleServe (payload : List Byte) (s : State) : EventsArrive s (ruleServe payload s).state := by
  have cleared : EventsArrive s { s with reservation := none } := .quiet rfl rfl
  unfold Machine.ruleServe
  split
  · split
    · split
      · exact .refl s
      · split
        · exact cleared
        · split
          · exact cleared
          · iterate 2 (split; · exact .refl s)
            exact (changeRecord _ _ s).trans (.quiet rfl rfl)
    · exact .refl s
  · exact .refl s

/-- TRACE places a CHECK_FAULT for each failed entry that it read (R165). -/
theorem traceServe (payload : List Byte) (s : State) : EventsArrive s (traceServe payload s).state := by
  unfold Machine.traceServe
  split
  · split
    · exact .refl s
    · iterate 2 (split; · exact .refl s)
      split
      · exact .refl s
      · split
        · exact .refl s
        · exact traceFaults _ _ s
  · exact .refl s

theorem storeSaveServe (payload : List Byte) (s : State) : EventsArrive s (storeSaveServe payload s).state := by
  unfold Machine.storeSaveServe
  split
  · split
    · exact .refl s
    · exact (beginSave _ _).after rfl rfl
  · exact .refl s

/-- The owner of every request but EVENTS and LINE_SET places events alone, whether it accepts or refuses. -/
theorem serveKind {k : Kind} (events : k ≠ .events) (lineSet : k ≠ .lineSet) (payload : List Byte) (s : State) :
    EventsArrive s (serveKind k payload s).state := by
  cases k with
  | events => exact absurd rfl events
  | lineSet => exact absurd rfl lineSet
  | laneSet => exact laneSetServe payload s
  | marks => exact marksRequest payload s
  | set => exact setRequest payload s
  | stand => exact standRequest payload s
  | recallRequest => exact recallServe payload s
  | rule => exact ruleServe payload s
  | trace => exact traceServe payload s
  | storeSave => exact storeSaveServe payload s
  | status => simp only [Machine.serveKind, statusServe, accepted]; (repeat' split) <;> exact .quiet rfl rfl
  | port => simp only [Machine.serveKind, portServe, accepted]; (repeat' split) <;> exact .quiet rfl rfl
  | laneGet => simp only [Machine.serveKind, laneGetServe]; (repeat' split) <;> exact .quiet rfl rfl
  | profileSet => simp only [Machine.serveKind, profileSetServe]; (repeat' split) <;> exact .quiet rfl rfl
  | profileGet => simp only [Machine.serveKind, profileGetServe]; (repeat' split) <;> exact .quiet rfl rfl
  | lineGet => simp only [Machine.serveKind, lineGetServe]; split <;> exact .quiet rfl rfl
  | zero => simp only [Machine.serveKind, zeroServe]; (repeat' split) <;> exact .quiet rfl rfl
  | record => simp only [Machine.serveKind, recordRequest]; (repeat' split) <;> exact .quiet rfl rfl
  | reserve => simp only [Machine.serveKind, reserveServe]; (repeat' split) <;> exact .quiet rfl rfl
  | restart => simp only [Machine.serveKind, restartServe]; split <;> exact .quiet rfl rfl

end EventsArrive

end Sys2Proof.Machine
end

section
/-! PROOFS. Every command keeps the event queue within its bounds (R53, R180 to R187, R192). -/

namespace Sys2Proof.Machine

/-! ### The operations of the queue -/

/-- The bounds of `QueueInv` for a queue under an ATTN mode. -/
def EventQueue.Bounded (mode : AttnMode) (q : EventQueue) : Prop := q.list.length ≤ 32 ∧ q.owed ≤ 255 ∧ (mode = .level → q.owed = 0)

theorem queueInv_iff (s : State) : QueueInv s ↔ s.events.Bounded s.line.attnMode := .rfl

namespace EventQueue.Bounded

/-- An arrival adds an event while there is room, and owes a pulse in PULSE mode alone, stopping at 255 (R181, R186). -/
theorem arrive {mode : AttnMode} {q : EventQueue} (h : q.Bounded mode) (e : Event) : (arrive mode e q).Bounded mode := by
  obtain ⟨size, owed, level⟩ := h
  rcases Nat.lt_or_ge q.list.length 32 with room | full
  · rw [arrive_room mode e room]
    refine ⟨by simpa using room, ?_, ?_⟩
    · cases mode with
      | level => exact owed
      | pulse => exact Nat.min_le_right _ _
    · rintro rfl
      exact level rfl
  · rw [arrive_full mode e full]
    exact ⟨size, owed, level⟩

theorem arriveAll {mode : AttnMode} {q : EventQueue} (h : q.Bounded mode) (es : List Event) : (arriveAll mode es q).Bounded mode :=
  List.foldlRecOn es _ h fun _ hq e _ => hq.arrive e

/-- A change of ATTN mode drops the pulses owed (R53, R187). -/
theorem modeChange {old : AttnMode} {q : EventQueue} (h : q.Bounded old) (new : AttnMode) :
    (attnModeChange old new q).Bounded new := by
  obtain ⟨size, owed, level⟩ := h
  rw [attnModeChange_eq]
  by_cases same : new = old
  · subst same
    simpa [Bounded] using ⟨size, owed, level⟩
  · simp [Bounded, same, size]

/-- EVENTS removes events and owes nothing more (R183). -/
theorem fetch {mode : AttnMode} {q : EventQueue} (h : q.Bounded mode) (n : Nat) : (q.fetch n).Bounded mode :=
  ⟨(List.drop_sublist n q.list).length_le.trans h.1, h.2⟩

end EventQueue.Bounded

namespace QueueInv

/-- Events that arrive keep the queue within its bounds. -/
theorem arrives {s t : State} (h : QueueInv s) (k : EventsArrive s t) : QueueInv t := by
  obtain ⟨line, es, arrived⟩ := k
  rw [queueInv_iff, line, arrived]
  exact EventQueue.Bounded.arriveAll h es

theorem afterReset (pins : Pins) (held : Bool) (pending : List Instr) : QueueInv (State.afterReset pins held pending) :=
  ⟨Nat.zero_le _, Nat.zero_le _, fun _ => rfl⟩

/-- The line settings are written and the ATTN mode changes with them (R53, R187). -/
theorem setLine {s : State} (h : QueueInv s) (c : LineSettings) :
    QueueInv { s with line := c, events := attnModeChange s.line.attnMode c.attnMode s.events } :=
  EventQueue.Bounded.modeChange h c.attnMode

/-! ### The requests (R173) -/

theorem eventsServe {s : State} (h : QueueInv s) (payload : List Byte) : QueueInv (eventsServe payload s).state := by
  unfold Machine.eventsServe
  split
  · split
    · exact EventQueue.Bounded.fetch h _
    · exact h
  · exact h

/-- LINE_SET changes the ATTN mode before its link resets, whose ZERO_FAIL events meet the new mode (entry 10). -/
theorem lineSetServe {s : State} (h : QueueInv s) (payload : List Byte) : QueueInv (lineSetServe payload s).state := by
  have written : ∀ c, QueueInv (lineSetAccepted c s) := fun c => by
    unfold lineSetAccepted
    simp only
    split
    · exact h.setLine c
    · exact (h.setLine c).arrives (.forPorts (fun p t => .tableReset p _ _ t) allPorts _)
  unfold Machine.lineSetServe
  split
  · exact h
  · split
    · exact h
    · exact written _

theorem serveRequest {s : State} (h : QueueInv s) (code : Byte) (payload : List Byte) :
    QueueInv (serveRequest code payload s).state := by
  unfold Machine.serveRequest
  split
  · exact h
  · next k _ =>
    split
    · exact h
    · split
      · exact h
      · by_cases events : k = .events
        · subst events; exact h.eventsServe payload
        · by_cases lineSet : k = .lineSet
          · subst lineSet; exact h.lineSetServe payload
          · exact h.arrives (.serveKind events lineSet payload s)

theorem hostKeeps : HostKeeps QueueInv := ⟨fun _ h => h, fun code payload h => h.serveRequest code payload, afterReset⟩

/-! ### The load, the pulses and the tick (R1, R186, R192) -/

/-- The end of a load that has accepted an image changes the ATTN mode with the line settings; the LINK_UP events of the pending hellos
meet the new mode (R192). -/
theorem endLoad_some {s : State} (h : QueueInv s) (outcome : StoreState) (w : LoadCopy) (marker : Option Nat) :
    QueueInv (endLoad outcome (some w) marker s) := by
  have loaded : ∀ store, QueueInv { loadTables (some w) s with
      events := attnModeChange s.line.attnMode w.line.attnMode s.events, store := store } :=
    fun _ => EventQueue.Bounded.modeChange h w.line.attnMode
  unfold endLoad
  exact (loaded _).arrives (.forPorts .completeHello allPorts _)

theorem loadReadStep {s : State} (h : QueueInv s) (taken : Option (Vector Byte 16)) : QueueInv (loadReadStep taken s) := by
  unfold Machine.loadReadStep
  split
  · split
    · exact h.arrives (.endLoad_none _ _ s)
    · split
      · exact h
      · exact h.arrives (.endLoad_none _ _ s)
      · exact h.endLoad_some _ _ _
  · exact h

/-- A pulse that begins is one fewer owed (R186). -/
theorem attnPulseStartStep {s : State} (h : QueueInv s) : QueueInv (attnPulseStartStep s) := by
  obtain ⟨size, owed, level⟩ := h
  unfold Machine.attnPulseStartStep
  split
  · exact ⟨size, (Nat.sub_le _ _).trans owed, fun mode => by simp [level mode]⟩
  · exact ⟨size, owed, level⟩

theorem nextTick {s : State} (h : QueueInv s) (pins : Pins) (upsets : List (LaneIx × Nat)) : QueueInv (nextTick pins upsets s) := by
  have advanced : QueueInv (advance pins s) := h
  unfold Machine.nextTick
  split
  · rw [(applyUpsets_spec upsets (advance pins s)).1]; exact advanced
  · exact h.arrives (.firstTick pins s)

theorem tickStep {s : State} (h : QueueInv s) (pins : Pins) (upsets : List (LaneIx × Nat)) : QueueInv (tickStep pins upsets s) := by
  unfold Machine.tickStep
  split
  · rw [takeDue_eq]
    exact (hostKeeps.replyAbandonedStep (h.arrives (.takeEvents s))).nextTick pins upsets
  · exact h.nextTick pins upsets

/-! ### Every command -/

/-- A command on the running part keeps the bounds when its meaning does; a held part does not change. -/
theorem live {f : State → State} {s t : State} (h : QueueInv s) (hf : QueueInv (f s)) (e : live f s = .next t) : QueueInv t :=
  RecordsClosed.live h hf e

/-- A command whose meaning places events alone. -/
theorem live_arrives {f : State → State} {s t : State} (h : QueueInv s) (hf : EventsArrive s (f s)) (e : Machine.live f s = .next t) :
    QueueInv t := h.live (h.arrives hf) e

/-- Whatever the command, the state that it answers has its event queue within the bounds. -/
theorem exec {c : Instr} {s t : State} (h : QueueInv s) (e : exec c s = .next t) : QueueInv t := by
  cases hr : requestOf c with
  | some request =>
    obtain ⟨code, r⟩ := request
    rw [exec_request hr] at e
    exact h.live (hostKeeps.requestArrives code r h) e
  | none =>
    cases c with
    | reset straps => cases e; exact afterReset _ _ _
    | resetPinAsserted => cases e; exact afterReset _ _ _
    | startUpFirstTick pins =>
      refine h.live_arrives ?_ e
      unfold startUpFirstTickStep
      split
      · exact .refl s
      · exact .firstTick pins s
    | tick pins upsets => exact h.live (h.tickStep pins upsets) e
    | requestFrameDropped bytes => exact h.live (hostKeeps.hostBytes bytes h) e
    | frameTimeout bytes =>
      exact h.live (f := fun t => quietPassed (hostBytes bytes t)) (hostKeeps.quietPassed (hostKeeps.hostBytes bytes h)) e
    | mutedFrame bytes quiet =>
      refine h.live (f := fun t => if quiet then quietPassed (hostBytes bytes t) else hostBytes bytes t) ?_ e
      split
      · exact hostKeeps.quietPassed (hostKeeps.hostBytes bytes h)
      · exact hostKeeps.hostBytes bytes h
    | replyStart => exact h.live (hostKeeps.replyStartStep h) e
    | replySent => exact h.live (hostKeeps.replySentStep h) e
    | replyAbandoned2ms => exact h.live (hostKeeps.replyAbandonedStep h) e
    | pistolEdge => exact h.live_arrives (.pistolEdgeStep s) e
    | shotAccepted => exact h.live_arrives (.shotAcceptedStep s) e
    | glitch => exact h.live_arrives (.glitchStep s) e
    | pistolHoldEnd => exact h.live_arrives (.pistolHoldEndStep s) e
    | recallPulseEnd => exact h.live_arrives (.recallPulseEndStep s) e
    | sampleFrame p rx => exact h.live_arrives (.linkReceive p rx s) e
    | hello p rx => exact h.live_arrives (.linkReceive p rx s) e
    | alive p rx => exact h.live_arrives (.linkReceive p rx s) e
    | discardedStatusFrame p rx => exact h.live_arrives (.linkReceive p rx s) e
    | badFrame p rx => exact h.live_arrives (.linkReceive p rx s) e
    | silenceEndExpiry p => exact h.live_arrives (.silenceEndStep p s) e
    | presenceActive p => exact h.live_arrives (.presenceActiveStep p s) e
    | presenceInactive p => exact h.live_arrives (.presenceInactiveStep p s) e
    | helloWaitEndExpiry p => exact h.live_arrives (.helloWaitEndStep p s) e
    | breakEnd p => exact h.live_arrives (.breakEndStep p s) e
    | outboundFrameSent p => exact h.live_arrives (.outboundFrameSentStep p s) e
    | zeroTimeout l => exact h.live_arrives (.zeroTimeoutStep l s) e
    | settleEndExpiry => exact h.live_arrives (.settleEndStep s) e
    | windowCloseExpiry => exact h.live_arrives (.windowCloseStep s) e
    | recallShotEndExpiry => exact h.live_arrives (.recallShotEndStep s) e
    | heldAgeEndExpiry l => exact h.live_arrives (.heldAgeEndStep l s) e
    | attnPulseStart => exact h.live h.attnPulseStartStep e
    | attnPulseEnd => exact h.live (f := attnPulseEndStep) h e
    | loadAddressAcknowledged => exact h.live_arrives (.loadAddressStep s) e
    | loadAcknowledgeDeadline => exact h.live_arrives (.loadDeadlineStep s) e
    | loadRead taken => exact h.live (h.loadReadStep taken) e
    | saveWriteTaken => exact h.live_arrives (.saveTakenStep s) e
    | saveWriteStored => exact h.live_arrives (.saveStoredStep s) e
    | saveAcknowledgeDeadline => exact h.live_arrives (.saveDeadlineStep s) e
    | _ => cases hr

end QueueInv

/-- Settles O53: an event that a command places is an arrival, which keeps the bounds; besides arrivals only EVENTS, a change of ATTN mode,
the pulses of ATTN, a tick and a reset write the queue, and they add no event and no pulse owed. -/
theorem eventQueueBounded : Obligations.EventQueueBounded := by
  intro s t h e
  unfold step at e
  split at e
  · cases e; exact h
  · refine QueueInv.exec ?_ e
    exact h

end Sys2Proof.Machine
end

section
/-! PROOFS. The reset: the value of every field of every block, the straps, the pin held, and the invariants met (R166, R196). -/

namespace Sys2Proof.Machine

/-! ### The banks after a reset (R17, R41, R43, R56, R65, R102) -/

section
variable (pins : Pins) (held : Bool) (pending : List Instr)

theorem State.afterReset_port (p : PortIx) : (State.afterReset pins held pending).port p = portReset := Vector.getElem_replicate _

theorem State.afterReset_lane (l : LaneIx) : (State.afterReset pins held pending).lane l = factoryLane l := factoryLaneMap_lane l

theorem State.afterReset_profile (n : Fin 4) : (State.afterReset pins held pending).profile n = factoryProfile :=
  factoryProfiles_profile n

theorem State.afterReset_assembler (l : LaneIx) : (State.afterReset pins held pending).assembler l = assemblerReset :=
  Vector.getElem_replicate _

theorem State.afterReset_ring (l : LaneIx) : (State.afterReset pins held pending).ring l = ringReset := Vector.getElem_replicate _

theorem State.afterReset_zero (l : LaneIx) : (State.afterReset pins held pending).zero l = none := Vector.getElem_replicate _

theorem State.afterReset_detector (l : LaneIx) : (State.afterReset pins held pending).detector l = detectorReset :=
  Vector.getElem_replicate _

/-- A reset gives every block the values of its own chapter, whatever the pins and whether the reset pin is held or released (R196). -/
theorem ResetValues.afterReset : ResetValues (State.afterReset pins held pending) where
  clock := rfl
  pistol := rfl
  driver := ⟨rfl, rfl⟩
  ports := State.afterReset_port pins held pending
  laneMap l := by
    rw [State.afterReset_lane]
    exact ⟨⟨_, rfl, rfl⟩, rfl, rfl, fun c => ⟨Vector.getElem_replicate _, Vector.getElem_replicate _⟩, rfl, rfl, rfl⟩
  profiles := State.afterReset_profile pins held pending
  line := rfl
  assemblers := State.afterReset_assembler pins held pending
  rings := State.afterReset_ring pins held pending
  zeros := State.afterReset_zero pins held pending
  detectors := State.afterReset_detector pins held pending
  seq := rfl
  review := rfl
  host := ⟨rfl, rfl, rfl, rfl, rfl, rfl, rfl, Option.isNone_iff_eq_none⟩
  events := ⟨rfl, rfl⟩
  store := rfl

end

/-! ### The straps (R166) -/

theorem strapsOdd_iff (st : Straps) : strapsOdd st = true ↔
    ((List.range 5).countP (fun i => st.address.getLsbD i) + if st.parity then 1 else 0) % 2 = 1 := by
  have levels : ∀ (address : BitVec 5) (parity : Bool), strapsOdd { rate := 0#2, address := address, parity := parity } = true ↔
      ((List.range 5).countP (fun i => address.getLsbD i) + if parity then 1 else 0) % 2 = 1 := by decide
  exact levels st.address st.parity

theorem addressOfStraps_eq_some (st : Straps) (n : Nat) : addressOfStraps st = some n ↔
    st.address.toNat = n ∧ 1 ≤ n ∧ n ≤ 30 ∧ strapsOdd st = true := by
  unfold addressOfStraps
  split
  · next h => exact ⟨fun e => Option.some.inj e ▸ ⟨rfl, h⟩, fun e => congrArg some e.1⟩
  · next h => exact ⟨nofun, fun ⟨e, range⟩ => absurd (e ▸ range) h⟩

/-! ### The reset pin -/

/-- While the reset pin is held the part takes no command but the two of the pin itself (R196, entry 14). -/
theorem exec_held {c : Instr} {s : State} (held : s.resetHeld = true) (release : ∀ straps, c ≠ .reset straps)
    (assert : c ≠ .resetPinAsserted) : exec c s = .next s := by
  cases c with
  | reset straps => exact absurd rfl (release straps)
  | resetPinAsserted => exact absurd rfl assert
  | frameTimeout bytes => exact live_held (fun t => quietPassed (hostBytes bytes t)) held
  | mutedFrame bytes quiet => exact live_held (fun t => if quiet then quietPassed (hostBytes bytes t) else hostBytes bytes t) held
  | _ => exact live_held _ held

/-- Settles O3: both commands of the pin leave the state after reset, which is read field by field; a held part takes no other. -/
theorem resetPinAndStraps : Obligations.ResetPinAndStraps := by
  refine ⟨fun straps s => ⟨_, rfl, .afterReset _ _ _, rfl, rfl, rfl, rfl, fun n => ?_⟩, fun s => ⟨_, rfl, .afterReset _ _ _, rfl, rfl⟩,
    fun c s held release assert => exec_held held release assert⟩
  rw [← strapsOdd_iff]
  exact addressOfStraps_eq_some straps n

/-- Settles O60: a reset meets each invariant, the history being empty and no frame or reply under way. -/
theorem resetMeetsInvariants : Obligations.ResetMeetsInvariants :=
  ⟨.afterReset _ _ _, .afterReset _ _ _, .afterReset _ _ _, nofun, .afterReset _ _ _, fun _ => rfl, nofun⟩

end Sys2Proof.Machine
end

section
/-! PROOFS. The first tick after a reset: the presence lines read, the link resets of the ports that read active, and the start of the load
(R17, R28, R191, R197). -/

namespace Sys2Proof.Machine

/-- A fold over ports whose step writes of the ports its own alone, by the port as it stands, writes each port of the list so once. -/
theorem forPorts_writesOwn {f : PortIx → State → State} {g : PortIx → Port → Port} {I : State → Prop} (keeps : ∀ p t, I t → I (f p t))
    (own : ∀ p t, I t → (f p t).port p = g p (t.port p)) (other : ∀ p q t, p ≠ q → (f p t).port q = t.port q)
    {ps : List PortIx} (nodup : ps.Nodup) {s : State} (h : I s) (q : PortIx) :
    (forPorts ps f s).port q = if q ∈ ps then g q (s.port q) else s.port q := by
  induction ps generalizing s with
  | nil => rfl
  | cons p ps ih =>
    obtain ⟨fresh, rest⟩ := List.nodup_cons.mp nodup
    refine (ih rest (keeps p s h)).trans ?_
    by_cases hq : p = q
    · subst hq
      simp [fresh, own p s h]
    · simp [Ne.symm hq, other p q s hq]

/-- A port at the first reading of its presence line: the level is taken at once, and an active one brings a link reset (R17). -/
def Port.firstReading (now : Time) (active : Bool) (x : Port) : Port :=
  if active then { x with presence := true, presenceRun := 0 }.linkReset now else { x with presence := false, presenceRun := 0 }

theorem firstPresence_own (pins : Pins) (p : PortIx) (s : State) :
    (firstPresence pins p s).port p = (s.port p).firstReading s.clock (pins.presence.getLsbD p.val) := by
  simp only [firstPresence, Port.firstReading]
  cases pins.presence.getLsbD p.val with
  | false => simp
  | true => simp [linkReset_port]

theorem firstPresence_other (pins : Pins) {p q : PortIx} (s : State) (h : p ≠ q) : (firstPresence pins p s).port q = s.port q := by
  unfold firstPresence
  simp only
  split
  · rw [linkReset_port, if_neg h, State.setPort_port, if_neg h]
  · rw [State.setPort_port, if_neg h]

/-- With no port STREAMING a first reading places no event, and leaves none STREAMING (R17, R77). -/
theorem firstPresence_quiet (pins : Pins) (p : PortIx) {s : State} (h : ∀ q, (s.port q).link ≠ .streaming) :
    (firstPresence pins p s).events = s.events ∧ ∀ q, ((firstPresence pins p s).port q).link ≠ .streaming := by
  constructor
  · unfold firstPresence
    simp only
    split
    · rw [linkReset_quiet _ (by simpa using h p)]
      rfl
    · rfl
  · intro q
    by_cases hq : p = q
    · subst hq
      rw [firstPresence_own, Port.firstReading]
      split
      · simp [(Port.linkReset_ends _ _).1]
      · exact h p
    · rw [firstPresence_other pins s hq]
      exact h q

/-- The first readings of the twelve presence lines, no port STREAMING: every port is written once, and no event is placed (R17). -/
theorem firstPresences_spec (pins : Pins) {s : State} (h : ∀ q, (s.port q).link ≠ .streaming) :
    (forPorts allPorts (firstPresence pins) s).events = s.events
    ∧ ∀ q, (forPorts allPorts (firstPresence pins) s).port q = (s.port q).firstReading s.clock (pins.presence.getLsbD q.val) := by
  have keeps : ∀ p t, (t.clock = s.clock ∧ t.events = s.events ∧ ∀ q, (t.port q).link ≠ .streaming) →
      (firstPresence pins p t).clock = s.clock ∧ (firstPresence pins p t).events = s.events
        ∧ ∀ q, ((firstPresence pins p t).port q).link ≠ .streaming := by
    rintro p t ⟨clock, events, links⟩
    obtain ⟨quiet, unlinked⟩ := firstPresence_quiet pins p links
    exact ⟨(congrArg State.clock (WritesLinks.firstPresence pins p t) :).trans clock, quiet.trans events, unlinked⟩
  refine ⟨(forPorts_induct allPorts ⟨rfl, rfl, h⟩ fun p _ => keeps p).2.1, fun q => ?_⟩
  rw [forPorts_writesOwn (g := fun p x => x.firstReading s.clock (pins.presence.getLsbD p.val)) keeps
    (fun p t ht => ht.1 ▸ firstPresence_own pins p t) (fun p q t => firstPresence_other pins t) allPorts_nodup ⟨rfl, rfl, h⟩,
    if_pos (mem_allPorts q)]

/-- The part at its first tick, before the presence lines are read: the clock and the pistol's first sample (R4, R197). -/
def firstSampled (pins : Pins) (s : State) : State :=
  { s with clock := s.clock + 1#32, pins := pins, started := true, pistol := { s.pistol with prev := some pins.pistol, sample := none } }

theorem firstTick_eq (pins : Pins) (s : State) :
    firstTick pins s = beginLoad (forPorts allPorts (firstPresence pins) (firstSampled pins s)) := rfl

/-- A port that has just been reset, at its first reading: ABSENT, or LINKING with its break (R17, R28). -/
theorem portReset_firstReading (now : Time) (active : Bool) : portReset.firstReading (now + 1#32) active =
    if active = true then
      { portReset with link := .linking, presence := true, helloWaitEnd := some (now + 5001#32), brk := .low (now + 2#32) }
    else { portReset with presence := false } := by
  have later : ∀ n, tadd (now + 1#32) n = now + (1#32 + BitVec.ofNat 32 n) := fun n => BitVec.add_assoc ..
  cases active with
  | false =>
    rw [Port.firstReading, if_neg nofun, if_neg nofun]
    rfl
  | true =>
    rw [Port.firstReading, if_pos rfl, if_pos rfl, Port.linkReset_eq, later, later]
    rfl

/-- Settles O4: the first readings write each port once and place no event, and the load begins after them. -/
theorem firstTickStartsUp : Obligations.FirstTickStartsUp := by
  intro pins s running first ports
  have reset : ∀ p, (firstSampled pins s).port p = portReset := ports
  obtain ⟨events, port⟩ := firstPresences_spec pins (s := firstSampled pins s) fun q => by rw [reset]; decide
  have writes : _ = _ := WritesLinks.firstPresences pins allPorts (firstSampled pins s)
  refine ⟨_, exec_startUpFirstTick pins running first, ?_⟩
  rw [firstTick_eq]
  generalize forPorts allPorts (firstPresence pins) (firstSampled pins s) = u at events port writes ⊢
  have field : ∀ {α : Type} (f : State → α), f u = f _ := fun f => congrArg f writes
  have clock : u.clock = s.clock + 1#32 := field State.clock
  refine ⟨clock, field State.started, field (·.pistol.prev), field (·.pistol.unit), rfl, ?_, field (·.store.state), events,
    field State.seq, field State.laneMap, field State.rings, fun p => ?_⟩
  · show some (tadd u.clock 200) = _
    rw [clock, tadd, BitVec.add_assoc]
    rfl
  · have read : (beginLoad u).port p = _ := (port p).trans ((congrArg _ (reset p)).trans (portReset_firstReading s.clock _))
    rw [read]
    split <;> rfl

end Sys2Proof.Machine
end

section
/-! PROOFS. RESTART, the reset that follows its reply, and the life of a reply (R174, R176 to R178, R196). -/

namespace Sys2Proof.Machine

/-! ### What a request does before the reset is gone with the reset: it moves neither the pins nor the queue (R196, entry 14) -/

theorem doReset_eq_of {s t : State} (pins : t.pins = s.pins) (pending : t.pending = s.pending) : doReset t = doReset s := by
  rw [doReset, doReset, pins, pending]

theorem doReset_onlyRecords {s t : State} (h : OnlyRecords s t) : doReset t = doReset s := doReset_eq_of h.pins h.pending

theorem doReset_writesReports {s t : State} (h : WritesReports s t) : doReset t = doReset s :=
  doReset_eq_of (congrArg State.pins h :) (congrArg State.pending h :)

theorem doReset_changeRecord (id : Nat) (f : Record → Record) (s : State) : doReset (changeRecord id f s) = doReset s :=
  doReset_onlyRecords (.changeRecord id f s)

theorem doReset_forLanes {f : LaneIx → State → State} (h : ∀ l t, doReset (f l t) = doReset t) (ls : List LaneIx) (s : State) :
    doReset (forLanes ls f s) = doReset s :=
  forLanes_induct (P := fun t => doReset t = doReset s) ls rfl fun l _ t ht => (h l t).trans ht

theorem doReset_forPorts {f : PortIx → State → State} (h : ∀ p t, doReset (f p t) = doReset t) (ps : List PortIx) (s : State) :
    doReset (forPorts ps f s) = doReset s :=
  forPorts_induct (P := fun t => doReset t = doReset s) ps rfl fun p _ t ht => (h p t).trans ht

theorem doReset_tableReset (p : PortIx) (before lane : Option LaneIx) (s : State) :
    doReset (tableReset p before lane s) = doReset s := by
  unfold tableReset
  split
  · rw [linkReset_writes]
    have ended := OnlyRecords.portStreamEnded p before s
    exact doReset_eq_of ended.pins ended.pending
  · rfl

theorem doReset_laneSetResets (l : LaneIx) (old new : LaneEntry) (s : State) :
    doReset (laneSetResets l old new s) = doReset s := by
  have reset : ∀ o before t, doReset (resetPort o before (some l) t) = doReset t := fun o before t => by
    cases o with
    | none => rfl
    | some p => exact doReset_tableReset p before (some l) t
  rw [laneSetResets_eq]
  split
  · split
    · exact reset _ _ _
    · rfl
  · exact (reset _ _ _).trans (reset _ _ _)

theorem doReset_laneSetAccepted (l : LaneIx) (e : LaneEntry) (s : State) : doReset (laneSetAccepted l e s) = doReset s :=
  doReset_laneSetResets l (s.lane l) e (s.setLane l e)

theorem doReset_lineSetAccepted (c : LineSettings) (s : State) : doReset (lineSetAccepted c s) = doReset s := by
  unfold lineSetAccepted
  simp only
  split
  · rfl
  · exact doReset_forPorts (fun p t => doReset_tableReset p _ _ t) allPorts _

theorem doReset_marksAccepted (heat : Nat) (lanes : List LaneIx) (s : State) : doReset (marksAccepted heat lanes s) = doReset s := by
  have created : doReset (createRecord heat lanes s) = doReset s := by rw [createRecord, removeOldest_eq]; rfl
  have failed : ∀ l t, doReset (failZero l 3#32 t) = doReset t := fun l t => by unfold failZero; split <;> rfl
  have told : ∀ l t, doReset (marksLink l t) = doReset t := fun l t => by
    unfold marksLink
    split
    · rfl
    · exact doReset_onlyRecords (.streamEnded l t)
  have lamps : ∀ p t, doReset (lampOff p t) = doReset t := fun p t => by unfold lampOff; split <;> rfl
  have released : ∀ t, doReset (releaseRings t) = doReset t := fun _ => rfl
  have prepared : ∀ t f, doReset (t.mapDetectors lanes f) = doReset t := fun _ _ => rfl
  rw [marksAccepted_eq, doReset_forLanes told, prepared, doReset_forPorts lamps, released, doReset_forLanes failed, created]

theorem doReset_setAccepted (r : Record) (s : State) : doReset (setAccepted r s) = doReset s := by
  apply doReset_eq_of <;>
  · unfold setAccepted
    simp only
    split <;> simp

theorem doReset_closeAttempt (kind : EventKind) (f : Record → Record) (q : Sequencer → Sequencer) (id : Nat) (lanes : List LaneIx)
    (s : State) : doReset (closeAttempt kind f q id lanes s) = doReset s := by
  apply doReset_eq_of <;> simp [closeAttempt]

theorem doReset_standClose (r : Record) (s : State) : doReset (standClose r s) = doReset s := by
  rw [standClose_eq, doReset_closeAttempt, doReset_changeRecord, doReset_writesReports (.forLanes .standDetector r.lanes s)]

theorem doReset_traceFaults (l : LaneIx) (read : List (Nat × Slot)) (s : State) : doReset (traceFaults l read s) = doReset s :=
  List.foldlRecOn (motive := fun t : State => doReset t = doReset s) _ _ rfl fun _ ht _ _ => ht

theorem doReset_saveAccepted (s : State) : doReset (saveAccepted s) = doReset s := by
  unfold saveAccepted beginSave; split <;> rfl

theorem doReset_reservation (x : Option Nat) (s : State) : doReset { s with reservation := x } = doReset s := rfl

theorem doReset_pulseRequest (manual : Bool) (id : Nat) (s : State) : doReset (pulseRequest manual id s) = doReset s := rfl

theorem doReset_ruleAccepted (id : Nat) (l : LaneIx) (d : Decision) (s : State) : doReset (ruleAccepted id l d s) = doReset s :=
  doReset_changeRecord id (fun r => r.ruleOn l d) s

/-- No request, accepted or refused, moves what a reset leaves standing. -/
theorem doReset_serveKind (k : Kind) (payload : List Byte) (s : State) : doReset (serveKind k payload s).state = doReset s := by
  cases k with
  | status =>
    simp only [serveKind, statusServe]
    split
    · split
      · simp only [accepted]
        split <;> rfl
      · rfl
    · rfl
  | port =>
    simp only [serveKind, portServe]
    split
    · split
      · simp only [accepted]
        split <;> rfl
      · rfl
    · rfl
  | laneSet =>
    simp only [serveKind, laneSetServe]
    (repeat' split) <;> simp [accepted, refuse, doReset_laneSetAccepted]
  | lineSet =>
    simp only [serveKind, lineSetServe]
    (repeat' split) <;> simp [accepted, refuse, doReset_lineSetAccepted]
  | marks =>
    simp only [serveKind, marksRequest]
    (repeat' split) <;> simp [accepted, refuse, doReset_marksAccepted]
  | set =>
    simp only [serveKind, setRequest]
    (repeat' split) <;> simp [accepted, refuse, doReset_setAccepted]
  | stand =>
    simp only [serveKind, standRequest]
    (repeat' split) <;> simp [accepted, refuse, doReset_standClose]
  | recallRequest =>
    simp only [serveKind, recallServe]
    (repeat' split) <;> simp [accepted, refuse, doReset_pulseRequest, doReset_changeRecord]
  | rule =>
    simp only [serveKind, ruleServe]
    (repeat' split) <;> simp [accepted, refuse, doReset_reservation, doReset_ruleAccepted]
  | trace =>
    simp only [serveKind, traceServe]
    (repeat' split) <;> simp [accepted, refuse, traceAccepted, doReset_traceFaults]
  | storeSave =>
    simp only [serveKind, storeSaveServe]
    (repeat' split) <;> simp [accepted, refuse, doReset_saveAccepted]
  | events => simp only [serveKind, eventsServe]; (repeat' split) <;> rfl
  | laneGet => simp only [serveKind, laneGetServe]; (repeat' split) <;> rfl
  | profileSet => simp only [serveKind, profileSetServe]; (repeat' split) <;> rfl
  | profileGet => simp only [serveKind, profileGetServe]; (repeat' split) <;> rfl
  | lineGet => simp only [serveKind, lineGetServe]; split <;> rfl
  | zero => simp only [serveKind, zeroServe]; (repeat' split) <;> rfl
  | record => simp only [serveKind, recordRequest]; (repeat' split) <;> rfl
  | reserve => simp only [serveKind, reserveServe]; (repeat' split) <;> rfl
  | restart => simp only [serveKind, restartServe]; split <;> rfl

theorem doReset_serveRequest (code : Byte) (payload : List Byte) (s : State) :
    doReset (serveRequest code payload s).state = doReset s := by
  unfold serveRequest
  split
  · rfl
  · split
    · rfl
    · split
      · rfl
      · exact doReset_serveKind _ payload s

/-! ### The request that a reset follows (R178, R196) -/

/-- A request that the receiver takes while a RESTART is pending, or a RESTART that is broadcast, resets the part once it has been served. -/
theorem requestArrives_reset {s : State} {code : Byte} {r : Request} (rx : s.host.rx = .hunt) (de : deAsserted s = false)
    (reaches : addressed s r.address = true) (fits : r.payload.length ≤ 200)
    (resets : s.host.restartPending = true ∨ (isRestart code (serveRequest code r.payload s) = true ∧ r.address = 31#8)) :
    requestArrives code r s = doReset s := by
  have ready : readyToReceive s = true := by simp [readyToReceive, rx, de]
  rw [requestArrives, if_pos ⟨ready, reaches, fits⟩, requestTaken, setRx_self rx]
  simp only
  rw [if_pos resets]
  exact doReset_serveRequest code r.payload s

theorem serveRequest_restart {s : State} (h : s.store.state ≠ .loading) : serveRequest 0x39#8 [] s = accepted s [] :=
  serveRequest_owner (k := .restart) rfl rfl (.inl h)

/-! ### The life of a reply (R177, R178) -/

theorem deAsserted_waiting {s : State} {rep : Reply} {limit : Time} (h : s.host.tx = .waiting rep limit) : deAsserted s = false := by
  simp [deAsserted, h]

theorem exec_replyStart {s : State} {rep : Reply} {limit : Time} (running : s.resetHeld = false) (h : s.host.tx = .waiting rep limit) :
    exec .replyStart s = .next (if s.host.rx = .hunt then { s with host := { s.host with tx := .sending rep } } else s) := by
  refine (live_running replyStartStep running).trans (congrArg _ ?_)
  rw [replyStartStep, h]

theorem exec_replyAbandoned {s : State} (running : s.resetHeld = false) : exec .replyAbandoned2ms s = .next (replyAbandonedStep s) :=
  live_running replyAbandonedStep running

theorem exec_replySent {s : State} {rep : Reply} (running : s.resetHeld = false) (h : s.host.tx = .sending rep) :
    exec .replySent s = .next (replyOver s) := by
  refine (live_running replySentStep running).trans (congrArg _ ?_)
  rw [replySentStep, h]

/-- The end of a reply with no RESTART pending leaves the transmitter IDLE (R177, R178). -/
theorem replyOver_idle {s : State} (h : s.host.restartPending = false) :
    replyOver s = { s with host := { s.host with tx := .idle } } := by
  simp [replyOver, h]

/-- The end of the reply of a RESTART brings the reset (R196). -/
theorem replyOver_reset {s : State} (h : s.host.restartPending = true) : replyOver s = doReset s := by
  simp [replyOver, doReset, h]

/-- Settles O25: the reset follows the end of the reply of a RESTART, the next request, or a broadcast RESTART at once, and forgets what the
request did. -/
theorem restartAndReplies : Obligations.RestartAndReplies := by
  refine ⟨fun s r hs hp => ?_, fun s r running rx de address payload loaded => ?_, fun s rep limit running waiting => ⟨?_, ?_, ?_, ?_, ?_⟩,
    fun c code r s rep limit hc running rx waiting restart reaches fits => ?_, fun s rep running sending => ⟨?_, ?_⟩, fun now => rfl⟩
  · obtain ⟨takes, loaded⟩ := hs
    rw [exec_request (code := 0x39#8) rfl, live_running _ takes.1, requestArrives_takes _ takes (by simp [hp]), hp,
      serveRequest_restart loaded]
    rfl
  · have isRestart : isRestart 0x39#8 (serveRequest 0x39#8 r.payload s) = true := by rw [payload, serveRequest_restart loaded]; rfl
    rw [exec_request (code := 0x39#8) rfl, live_running _ running,
      requestArrives_reset rx de (by simp [addressed, address]) (by simp [payload]) (.inr ⟨isRestart, address⟩)]
    rfl
  · intro rx
    rw [exec_replyStart running waiting, if_pos rx]
  · intro rx
    rw [exec_replyStart running waiting, if_neg rx]
  · intro early
    rw [exec_replyAbandoned running, replyAbandonedStep_notDue fun rep' h => early (TxState.waiting.inj (waiting.symm.trans h)).2]
  · rintro rfl restart
    rw [exec_replyAbandoned running, replyAbandonedStep_due waiting restart]
  · rintro rfl restart
    rw [exec_replyAbandoned running, replyAbandonedStep_restart waiting restart]
    rfl
  · rw [exec_request hc, live_running _ running,
      requestArrives_reset rx (deAsserted_waiting waiting) (by simpa [addressed] using reaches.symm) fits (.inl restart)]
    rfl
  · intro restart
    rw [exec_replySent running sending, replyOver_idle restart]
  · intro restart
    rw [exec_replySent running sending, replyOver_reset restart]
    rfl

end Sys2Proof.Machine
end

section
/-! PROOFS. STORE_SAVE, and the save that it starts: its transactions, each write taken and stored, and its deadline (R189, R190, R194,
R195). -/

namespace Sys2Proof.Machine

/-! ### The length of the image (R190, section 12.8) -/

theorem laneEntryBytes_length (e : LaneEntry) : (laneEntryBytes e).length = 22 := rfl

theorem laneRecord_length (l : LaneIx) (e : LaneEntry) : (laneRecord l e).length = 25 := by simp [laneRecord, laneEntryBytes_length]

theorem profileRecord_length (n : Fin 4) (p : Profile) : (profileRecord n p).length = 8 := rfl

theorem lineRecord_length (c : LineSettings) : (lineRecord c).length = 14 := rfl

/-- The header and the 15 records are 298 bytes, whatever the tables hold. -/
theorem imageBody_length (laneMap : Vector LaneEntry 10) (profiles : Vector Profile 4) (line : LineSettings) :
    (imageBody laneMap profiles line).length = 298 := by
  simp [imageBody, laneRecord_length, profileRecord_length, lineRecord_length, allLanes, allChans]

theorem saveImage_length (s : State) : (saveImage s).length = 302 := by
  simp [saveImage, imageBody_length, endMarker, be16]

/-! ### The start of a save (R194) -/

theorem anyZero_iff (s : State) : anyZero s = true ↔ ∃ l, s.zero l ≠ none := by
  simp [anyZero, mem_allLanes, Option.isSome_iff_ne_none]

/-- STORE_SAVE once the start-up load has ended (R194). -/
theorem storeSaveServe_loaded {s : State} (h : s.store.state ≠ .loading) : storeSaveServe [] s =
    if lineState s ≠ .idle ∨ (∃ l, s.zero l ≠ none) ∨ s.store.state = .saving then refuse s .busy else accepted (saveAccepted s) [] := by
  simp only [storeSaveServe, anyZero_iff, h, or_false]

/-- A page is sent, and before the last page the marker offset is the new one (R195). -/
theorem sendPage_eq (image : List Byte) (o : Nat) (s : State) : sendPage image o s =
    { s with store := { s.store with job := .saving { image := image, nextOffset := o, breaking := none, taken := false },
                                     deadline := some (s.clock + 200#32),
                                     markerOffset := if image.length ≤ o + 16 then some (image.length - 4) else s.store.markerOffset } } := by
  simp only [sendPage, isLastPage, decide_eq_true_eq]
  rfl

/-- A page before the last is sent with the marker offset as it is (R195). -/
theorem sendPage_before {image : List Byte} {o : Nat} (h : o + 16 < image.length) (s : State) : sendPage image o s =
    { s with store := { s.store with job := .saving { image := image, nextOffset := o, breaking := none, taken := false },
                                     deadline := some (s.clock + 200#32) } } := by
  rw [sendPage_eq, if_neg (Nat.not_le.mpr h)]

/-- An accepted STORE_SAVE sends the byte that breaks the old end marker, else page 0, which is not the last (R195 step 1). -/
theorem saveAccepted_eq (s : State) : saveAccepted s =
    { s with store := { state := .saving, markerOffset := s.store.markerOffset,
                        job := .saving { image := saveImage s, nextOffset := 0, breaking := s.store.markerOffset, taken := false },
                        deadline := some (s.clock + 200#32), busUsed := false } } := by
  unfold saveAccepted beginSave
  cases marker : s.store.markerOffset with
  | some m => simp only [marker]; rfl
  | none => simp only [marker]; rw [sendPage_before (by rw [saveImage_length]; decide)]

/-! ### The transactions of a save (R189, R195) -/

section
variable {s : State} {run : SaveRun} {d : Time} (job : s.store.job = .saving run) (deadline : s.store.deadline = some d)
include job deadline

theorem currentTransaction_saving : currentTransaction s =
    if isBefore s.clock d = false then none
    else if run.taken = false then some run.write
    else if s.store.busUsed then none
    else some .address := by
  simp only [currentTransaction, job, beforeDeadline, deadline]

/-- A write taken starts the wait for its storing, the polls from the next tick on (R195). -/
theorem saveTakenStep_inHand (before : isBefore s.clock d = true) (inHand : run.taken = false) : saveTakenStep s =
    { s with store := { s.store with job := .saving { run with taken := true }, deadline := some (s.clock + 200#32), busUsed := true } } := by
  have write : ∃ o data, run.write = .write o data := by unfold SaveRun.write; split <;> exact ⟨_, _, rfl⟩
  obtain ⟨o, data, write⟩ := write
  have current := currentTransaction_saving job deadline
  rw [before, if_neg nofun, if_pos inHand, write] at current
  simp only [saveTakenStep, job, current]
  rfl

theorem currentTransaction_poll (before : isBefore s.clock d = true) (taken : run.taken = true) (free : s.store.busUsed = false) :
    currentTransaction s = some .address := by
  rw [currentTransaction_saving job deadline, before, if_neg nofun, taken, if_neg nofun, free, if_neg nofun]

/-- A poll acknowledged after the byte that breaks the old end marker sends page 0 (R195 step 2). -/
theorem saveStoredStep_marker {m : Nat} (before : isBefore s.clock d = true) (taken : run.taken = true) (free : s.store.busUsed = false)
    (breaking : run.breaking = some m) : saveStoredStep s = sendPage run.image 0 s := by
  simp only [saveStoredStep, job, currentTransaction_poll job deadline before taken free, breaking]

/-- A poll acknowledged after a page sends the next one, or completes the save (R195). -/
theorem saveStoredStep_page (before : isBefore s.clock d = true) (taken : run.taken = true) (free : s.store.busUsed = false)
    (page : run.breaking = none) : saveStoredStep s =
      if run.image.length ≤ run.nextOffset + 16 then endSave .loaded .storeDone run.image.length s
      else sendPage run.image (run.nextOffset + 16) s := by
  simp only [saveStoredStep, job, currentTransaction_poll job deadline before taken free, page, isLastPage, decide_eq_true_eq]

theorem saveDeadlineStep_due (due : d = s.clock) : saveDeadlineStep s =
    endSave .saveFailed .storeFail (if run.breaking = none then run.nextOffset else 0) s := by
  subst due
  simp only [saveDeadlineStep, job, deadline, if_true]
  cases run.breaking <;> rfl

end

theorem exec_saveWriteTaken {s : State} (running : s.resetHeld = false) : exec .saveWriteTaken s = .next (saveTakenStep s) :=
  live_running saveTakenStep running

theorem exec_saveWriteStored {s : State} (running : s.resetHeld = false) : exec .saveWriteStored s = .next (saveStoredStep s) :=
  live_running saveStoredStep running

theorem exec_saveAcknowledgeDeadline {s : State} (running : s.resetHeld = false) :
    exec .saveAcknowledgeDeadline s = .next (saveDeadlineStep s) :=
  live_running saveDeadlineStep running

/-- Settles O24: the start of a save, and of a save under way each answer of the EEPROM, the deadline and the transaction of the tick. -/
theorem saveStartsAndRuns : Obligations.SaveStartsAndRuns := by
  refine ⟨fun s r hs hp => ⟨fun busy => ?_, fun idle zeros free => ?_⟩, fun s run d running job deadline => ⟨?_, ?_, ?_, ?_, ?_, ?_⟩,
    fun o data => rfl, fun s job => by simp only [currentTransaction, job]⟩
  · exact hs.refused .storeSave rfl hp rfl (by decide) ((storeSaveServe_loaded hs.2).trans (if_pos busy))
  · have served := (storeSaveServe_loaded hs.2).trans
      (if_neg (not_or.mpr ⟨not_not.mpr idle, not_or.mpr ⟨fun ⟨l, hl⟩ => hl (zeros l), free⟩⟩))
    rw [saveAccepted_eq] at served
    exact hs.accepted .storeSave rfl hp rfl (by decide) served rfl
  · intro inHand before
    rw [exec_saveWriteTaken running, saveTakenStep_inHand job deadline before inHand]
  · intro taken before free
    rw [exec_saveWriteStored running]
    refine ⟨fun m breaking long => ?_, fun page more => ?_, fun page last => ?_⟩
    · rw [saveStoredStep_marker job deadline before taken free breaking, sendPage_before (by omega)]
    · rw [saveStoredStep_page job deadline before taken free page, if_neg (Nat.not_le.mpr more), sendPage_eq, page]
    · rw [saveStoredStep_page job deadline before taken free page, if_pos last]
      rfl
  · intro due
    rw [exec_saveAcknowledgeDeadline running, saveDeadlineStep_due job deadline due]
    cases run.breaking <;> rfl
  · intro late
    rw [currentTransaction_saving job deadline, if_pos late]
  · intro before inHand
    rw [currentTransaction_saving job deadline, before, if_neg nofun, if_pos inHand]
    rfl
  · intro before taken
    rw [currentTransaction_saving job deadline, before, if_neg nofun, taken, if_neg nofun]

end Sys2Proof.Machine
end

section
/-! PROOFS. The tests of the start-up load, one by one: a record's type, its length, its end, its fields and what it names, the end marker,
the checksum and the ports (R191). -/

namespace Sys2Proof.Machine

/-! ### One record (R191) -/

theorem recordLength_eq {ty : Byte} {n : Nat} (h : (n = 23 ∧ ty = 0x01#8) ∨ (n = 6 ∧ ty = 0x02#8) ∨ (n = 12 ∧ ty = 0x03#8)) :
    recordLength ty = some n := by
  rcases h with ⟨rfl, rfl⟩ | ⟨rfl, rfl⟩ | ⟨rfl, rfl⟩ <;> rfl

theorem recordLength_none {ty : Byte} (h1 : ty ≠ 0x01#8) (h2 : ty ≠ 0x02#8) (h3 : ty ≠ 0x03#8) : recordLength ty = none := by
  simp only [recordLength, h1, h2, h3, if_false]

section
variable {all fields : List Byte} {left o n : Nat} {w : LoadCopy} {ty len : Byte} (type : recordLength ty = some n)
include type

/-- A record of another length than its type's, or that ends past offset 1019, is rejected at its length byte (entry 16). -/
theorem loadRecords_misplaced (h : len.toNat ≠ n ∨ 1019 < o + n + 1) :
    loadRecords all (left + 1) o w (ty :: len :: fields) = .bad none := by
  rcases h with length | past
  · simp only [loadRecords, type, ne_eq, length, not_false_eq_true, if_true]
  · have past : 1019 < o + 1 + n := by omega
    simp only [loadRecords, type, past, if_true, ite_self]

variable (given : len.toNat = n) (fits : o + n + 1 ≤ 1019)
include given fits

/-- A record not yet read to its last byte. -/
theorem loadRecords_unread (h : fields.length < n) : loadRecords all (left + 1) o w (ty :: len :: fields) = .more none := by
  have fits : ¬1019 < o + 1 + n := by omega
  simp only [loadRecords, type, given, ne_eq, not_true, if_false, fits, h, if_true]

/-- A record whose fields are refused, or that names a thing a second time. -/
theorem loadRecords_refused (whole : n ≤ fields.length) (refused : w.take ty (fields.take n) = none) :
    loadRecords all (left + 1) o w (ty :: len :: fields) = .bad none := by
  have fits : ¬1019 < o + 1 + n := by omega
  simp only [loadRecords, type, given, ne_eq, not_true, if_false, fits, Nat.not_lt.mpr whole, refused]

/-- A record that is taken: the rest is read with the working copy it gives. -/
theorem loadRecords_taken {v : LoadCopy} (whole : n ≤ fields.length) (taken : w.take ty (fields.take n) = some v) :
    loadRecords all (left + 1) o w (ty :: len :: fields) = loadRecords all left (o + n + 2) v (fields.drop n) := by
  have fits : ¬1019 < o + 1 + n := by omega
  simp only [loadRecords, type, given, ne_eq, not_true, if_false, fits, Nat.not_lt.mpr whole, taken, Nat.add_right_comm o n 2]

/-- A record that is taken, and what follows it. -/
theorem loadRecords_append {v : LoadCopy} (rest : List Byte) (length : fields.length = n) (taken : w.take ty fields = some v) :
    loadRecords all (left + 1) o w (ty :: len :: (fields ++ rest)) = loadRecords all left (o + n + 2) v rest := by
  rw [loadRecords_taken type given fits (by simp [length]) (by rw [List.take_left' length]; exact taken), List.drop_left' length]

end

/-! ### What a record names, and its fields (R191) -/

section
variable (w : LoadCopy) {b : Byte} {fields : List Byte}

theorem LoadCopy.take_lane {l : LaneIx} {e : LaneEntry} (number : b.toNat = l.val + 1) (read : laneEntryOfBytes fields = some e) :
    w.take 0x01#8 (b :: fields) = if l ∈ w.seenLanes then none
      else some { w with laneMap := w.laneMap.set l e, seenLanes := l :: w.seenLanes } := by
  simp [LoadCopy.take, laneOfByte_eq number, read]

theorem LoadCopy.take_laneRefused (h : b.toNat = 0 ∨ 10 < b.toNat ∨ laneEntryOfBytes fields = none) :
    w.take 0x01#8 (b :: fields) = none := by
  rcases or_assoc.mpr h with number | unread
  · simp [LoadCopy.take, laneOfByte_none number]
  · simp [LoadCopy.take, unread]

theorem LoadCopy.take_profile {n : Fin 4} {p : Profile} (number : b.toNat = n.val) (read : profileOfBytes fields = some p) :
    w.take 0x02#8 (b :: fields) = if n ∈ w.seenProfiles then none
      else some { w with profiles := w.profiles.set n p, seenProfiles := n :: w.seenProfiles } := by
  simp [LoadCopy.take, profileOfByte_eq number, read]

theorem LoadCopy.take_profileRefused (h : 3 < b.toNat ∨ profileOfBytes fields = none) : w.take 0x02#8 (b :: fields) = none := by
  rcases h with number | unread
  · simp [LoadCopy.take, profileOfByte_none number]
  · simp [LoadCopy.take, unread]

theorem LoadCopy.take_line {c : LineSettings} (read : lineOfBytes fields = some c) :
    w.take 0x03#8 fields = if w.seenLine then none else some { w with line := c, seenLine := true } := by
  simp only [LoadCopy.take, read, if_true]

theorem LoadCopy.take_lineRefused (h : lineOfBytes fields = none) : w.take 0x03#8 fields = none := by
  simp only [LoadCopy.take, h, if_true]

end

/-! ### The end of the image: its marker, its checksum and the ports (R191) -/

theorem portsDistinct_iff (laneMap : Vector LaneEntry 10) : portsDistinct laneMap = true ↔
    ∀ (l k : LaneIx) (p : PortIx), laneMap[l].port = some p → laneMap[k].port = some p → l = k := by
  refine ⟨fun h l k p => portsDistinct_eq h, fun h => List.all_eq_true.mpr fun l _ => List.all_eq_true.mpr fun k _ => ?_⟩
  have pair : ∀ a b : Option PortIx, (∀ p, a = some p → b = some p → l = k) → (l = k || a.isNone || a ≠ b) = true := by
    intro a b same
    cases a with
    | none => simp
    | some p =>
      by_cases hb : b = some p
      · simp [same p rfl hb]
      · simp [Ne.symm hb]
  exact pair _ _ (h l k)

/-- The end marker at its place, and the checksum behind it. -/
theorem loadEnd_marker (all rest : List Byte) (o : Nat) (w : LoadCopy) (h l : Byte) :
    loadEnd all o w (0xC0#8 :: 0xDE#8 :: h :: l :: rest) =
      if (byteSum (all.take (o + 2)) + rd16 h l) % 65536 = 0 ∧ portsDistinct w.laneMap = true then .good w o else .bad (some o) := rfl

theorem loadEnd_noMarker {m0 m1 : Byte} (h : m0 ≠ 0xC0#8 ∨ m1 ≠ 0xDE#8) (all rest : List Byte) (o : Nat) (w : LoadCopy) :
    loadEnd all o w (m0 :: m1 :: rest) = .bad none := by
  have other : [m0, m1] ≠ endMarker := fun e => h.elim (· (List.cons.inj e).1) (· (List.cons.inj (List.cons.inj e).2).1)
  simp only [loadEnd, other, if_false]

end Sys2Proof.Machine
end

section
/-! PROOFS. The stored image read back: each record is taken in its turn, and the checksum and the ports pass (R190, R191, section 12.8). -/

namespace Sys2Proof.Machine

/-! ### The records (R190) -/

/-- The working copy with the entry of a lane taken from a lane map. -/
def LoadCopy.withLane (laneMap : Vector LaneEntry 10) (w : LoadCopy) (l : LaneIx) : LoadCopy :=
  { w with laneMap := w.laneMap.set l laneMap[l], seenLanes := l :: w.seenLanes }

/-- The working copy with a profile taken from a table of profiles. -/
def LoadCopy.withProfile (profiles : Vector Profile 4) (w : LoadCopy) (n : Fin 4) : LoadCopy :=
  { w with profiles := w.profiles.set n profiles[n], seenProfiles := n :: w.seenProfiles }

/-- The record of a lane, within its ranges and not named before, sets its entry in the working copy. -/
theorem loadRecords_lane {laneMap : Vector LaneEntry 10} {l : LaneIx} (ok : laneMap[l].Ok) (all rest : List Byte) {left o : Nat}
    {w : LoadCopy} (fresh : l ∉ w.seenLanes) (fits : o + 25 ≤ 1020) :
    loadRecords all (left + 1) o w (laneRecord l laneMap[l] ++ rest) = loadRecords all left (o + 25) (w.withLane laneMap l) rest := by
  have number : (BitVec.ofNat 8 (laneNumber l)).toNat = l.val + 1 := byte_ofNat_toNat (by unfold laneNumber; omega)
  have record : laneRecord l laneMap[l] ++ rest =
      0x01#8 :: 23#8 :: ((BitVec.ofNat 8 (laneNumber l) :: laneEntryBytes laneMap[l]) ++ rest) := rfl
  rw [record]
  exact loadRecords_append (n := 23) rfl rfl (by omega) rest (by rw [List.length_cons, laneEntryBytes_length])
    ((w.take_lane number (laneEntryOfBytes_bytes ok)).trans (if_neg fresh))

/-- The record of a profile, within its ranges and not named before, sets it in the working copy. -/
theorem loadRecords_profile {profiles : Vector Profile 4} {n : Fin 4} (ok : profiles[n].Ok) (all rest : List Byte) {left o : Nat}
    {w : LoadCopy} (fresh : n ∉ w.seenProfiles) (fits : o + 8 ≤ 1020) :
    loadRecords all (left + 1) o w (profileRecord n profiles[n] ++ rest) = loadRecords all left (o + 8) (w.withProfile profiles n) rest := by
  have number : (BitVec.ofNat 8 n.val).toNat = n.val := byte_ofNat_toNat (by omega)
  exact loadRecords_append (n := 6) rfl rfl (by omega) rest rfl ((w.take_profile number (profileOfBytes_bytes ok)).trans (if_neg fresh))

/-- The record of the line settings, within their ranges and not named before, sets them in the working copy. -/
theorem loadRecords_line {line : LineSettings} (ok : line.Ok) (all rest : List Byte) {left o : Nat} {w : LoadCopy}
    (fresh : w.seenLine = false) (fits : o + 14 ≤ 1020) : loadRecords all (left + 1) o w (lineRecord line ++ rest) =
      loadRecords all left (o + 14) { w with line := line, seenLine := true } rest :=
  loadRecords_append (n := 12) rfl rfl (by omega) rest rfl ((w.take_line (lineOfBytes_bytes ok)).trans (if_neg (by simp [fresh])))

/-! ### The records of a table, one after another -/

/-- Records of things that none before them names are taken one after another; `named` lists what has been named, `set` takes one. -/
theorem loadRecords_flatMap {α : Type} {all : List Byte} {record : α → List Byte} {size : Nat} {named : LoadCopy → List α}
    {set : LoadCopy → α → LoadCopy} (names : ∀ w k, named (set w k) = k :: named w)
    (one : ∀ k w left o rest, k ∉ named w → o + size ≤ 1020 →
      loadRecords all (left + 1) o w (record k ++ rest) = loadRecords all left (o + size) (set w k) rest)
    (ks : List α) (nodup : ks.Nodup) {w : LoadCopy} (fresh : ∀ k ∈ ks, k ∉ named w) {left o : Nat} (fits : o + ks.length * size ≤ 1020)
    (rest : List Byte) : loadRecords all (left + ks.length) o w (ks.flatMap record ++ rest) =
      loadRecords all left (o + ks.length * size) (ks.foldl set w) rest := by
  induction ks generalizing o w with
  | nil => simp
  | cons k ks ih =>
    obtain ⟨first, others⟩ := List.nodup_cons.mp nodup
    rw [List.length_cons, Nat.succ_mul] at fits
    have freshRest : ∀ j ∈ ks, j ∉ named (set w k) := fun j hj => by
      rw [names, List.mem_cons, not_or]
      exact ⟨fun e => first (e ▸ hj), fresh j (List.mem_cons_of_mem k hj)⟩
    rw [List.flatMap_cons, List.append_assoc, List.length_cons, ← Nat.add_assoc, one k w _ o _ (fresh k List.mem_cons_self) (by omega),
      ih others freshRest (by omega), Nat.succ_mul, Nat.add_assoc, Nat.add_comm size]
    rfl

/-- A vector set at every place to what another holds there is that other. -/
theorem foldl_set_all {α : Type} {n : Nat} (m v : Vector α n) (ks : List (Fin n)) (every : ∀ i, i ∈ ks) :
    ks.foldl (fun u k => u.set k m[k]) v = m := by
  have place : ∀ (ks : List (Fin n)) (v : Vector α n) (i : Fin n),
      (ks.foldl (fun u k => u.set k m[k]) v)[i] = if i ∈ ks then m[i] else v[i] := by
    intro ks
    induction ks with
    | nil => intro v i; rfl
    | cons k ks ih =>
      intro v i
      rw [List.foldl_cons, ih]
      by_cases hk : k = i
      · subst hk; simp
      · have hv : k.val ≠ i.val := fun e => hk (Fin.ext e)
        simp [Ne.symm hk, hv]
  exact Vector.ext fun i hi => (place ks v ⟨i, hi⟩).trans (if_pos (every _))

/-- The records of the lanes, once each, give the lane map. -/
theorem LoadCopy.withLane_all (laneMap : Vector LaneEntry 10) (w : LoadCopy) : allLanes.foldl (.withLane laneMap) w =
    { w with laneMap := laneMap, seenLanes := allLanes.reverse ++ w.seenLanes } := by
  have each : ∀ (ls : List LaneIx) (w : LoadCopy), ls.foldl (.withLane laneMap) w =
      { w with laneMap := ls.foldl (fun v (l : LaneIx) => v.set l laneMap[l]) w.laneMap, seenLanes := ls.reverse ++ w.seenLanes } := by
    intro ls
    induction ls with
    | nil => intro w; rfl
    | cons l ls ih => intro w; rw [List.foldl_cons, ih]; simp [LoadCopy.withLane]
  rw [each, foldl_set_all laneMap w.laneMap allLanes mem_allLanes]

/-- The records of the profiles, once each, give the profiles. -/
theorem LoadCopy.withProfile_all (profiles : Vector Profile 4) (w : LoadCopy) : allChans.foldl (.withProfile profiles) w =
    { w with profiles := profiles, seenProfiles := allChans.reverse ++ w.seenProfiles } := by
  have each : ∀ (ns : List (Fin 4)) (w : LoadCopy), ns.foldl (.withProfile profiles) w =
      { w with profiles := ns.foldl (fun v (n : Fin 4) => v.set n profiles[n]) w.profiles, seenProfiles := ns.reverse ++ w.seenProfiles } := by
    intro ns
    induction ns with
    | nil => intro w; rfl
    | cons n ns ih => intro w; rw [List.foldl_cons, ih]; simp [LoadCopy.withProfile]
  rw [each, foldl_set_all profiles w.profiles allChans mem_allChans]

/-- The working copy when the 15 records of an image have been read. -/
def LoadCopy.ofTables (laneMap : Vector LaneEntry 10) (profiles : Vector Profile 4) (line : LineSettings) : LoadCopy :=
  { laneMap := laneMap, profiles := profiles, line := line, seenLanes := allLanes.reverse, seenProfiles := allChans.reverse,
    seenLine := true }

/-- The 15 records of an image are taken, and its end marker is to stand at offset 298 (R190, R191). -/
theorem loadFinding_imageBody {laneMap : Vector LaneEntry 10} {profiles : Vector Profile 4} {line : LineSettings}
    (lanesOk : ∀ l : LaneIx, laneMap[l].Ok) (profilesOk : ∀ n : Fin 4, profiles[n].Ok) (lineOk : line.Ok) (rest : List Byte) :
    loadFinding (imageBody laneMap profiles line ++ rest) =
      loadEnd (imageBody laneMap profiles line ++ rest) 298 (.ofTables laneMap profiles line) rest := by
  have header : ∀ records, loadFinding (0x51#8 :: 15#8 :: records) = loadRecords (0x51#8 :: 15#8 :: records) 15 2 loadCopyStart records :=
    fun _ => rfl
  have image : imageBody laneMap profiles line ++ rest = 0x51#8 :: 15#8 :: (allLanes.flatMap (fun l => laneRecord l laneMap[l])
      ++ (allChans.flatMap (fun n => profileRecord n profiles[n]) ++ (lineRecord line ++ rest))) := by
    simp only [imageBody, List.append_assoc, List.cons_append, List.nil_append]
  rw [image, header]
  generalize 0x51#8 :: 15#8 :: _ = all
  have lanes := loadRecords_flatMap (all := all) (record := fun l => laneRecord l laneMap[l]) (size := 25)
    (named := LoadCopy.seenLanes) (set := LoadCopy.withLane laneMap) (fun _ _ => rfl)
    (fun l _ _ _ rest => loadRecords_lane (lanesOk l) all rest) allLanes (by decide) (w := loadCopyStart) (fun _ _ => List.not_mem_nil)
    (left := 5) (o := 2) (by decide)
  have profile := loadRecords_flatMap (all := all) (record := fun n => profileRecord n profiles[n]) (size := 8)
    (named := LoadCopy.seenProfiles) (set := LoadCopy.withProfile profiles) (fun _ _ => rfl)
    (fun n _ _ _ rest => loadRecords_profile (profilesOk n) all rest) allChans (by decide)
    (w := { loadCopyStart with laneMap := laneMap, seenLanes := allLanes.reverse }) (fun _ _ => List.not_mem_nil)
    (left := 1) (o := 252) (by decide)
  rw [LoadCopy.withLane_all] at lanes
  rw [LoadCopy.withProfile_all] at profile
  exact (lanes _).trans ((profile _).trans (loadRecords_line lineOk all rest rfl (by decide)))

/-! ### The checksum (R190) -/

theorem checksumOf_sum (bytes : List Byte) : (byteSum bytes + checksumOf bytes) % 65536 = 0 := by
  unfold checksumOf
  omega

/-- Bytes whose checksum follows them, and ports that are distinct, pass the last tests (R191). -/
theorem loadEnd_checksum {body : List Byte} {o : Nat} {w : LoadCopy} (length : body.length = o) (distinct : portsDistinct w.laneMap = true) :
    loadEnd (body ++ (endMarker ++ be16 (checksumOf (body ++ endMarker)))) o w
      (endMarker ++ be16 (checksumOf (body ++ endMarker))) = .good w o := by
  generalize sum : checksumOf (body ++ endMarker) = c
  have small : c ≤ 65535 := by rw [← sum, checksumOf]; omega
  have covered : (body ++ (endMarker ++ be16 c)).take (o + 2) = body ++ endMarker := by
    rw [← List.append_assoc]
    exact List.take_left' (by simp [length, endMarker])
  have zero : (byteSum ((body ++ (endMarker ++ be16 c)).take (o + 2)) + rd16 (BitVec.ofNat 8 (c / 256)) (BitVec.ofNat 8 c)) % 65536 = 0 := by
    rw [covered, rd16_be16 small, ← sum]
    exact checksumOf_sum _
  exact (loadEnd_marker _ [] o w _ _).trans (if_pos ⟨zero, distinct⟩)

/-- Settles O44: the records give the tables back one by one, and the image ends with its own checksum. -/
theorem storedImageRoundTrips : Obligations.StoredImageRoundTrips := by
  intro s h
  have image : saveImage s = imageBody s.laneMap s.profiles s.line
      ++ (endMarker ++ be16 (checksumOf (imageBody s.laneMap s.profiles s.line ++ endMarker))) := List.append_assoc ..
  refine ⟨saveImage_length s, .ofTables s.laneMap s.profiles s.line, ?_, rfl, rfl, rfl⟩
  rw [image, loadFinding_imageBody h.lanes h.profiles h.line]
  exact loadEnd_checksum (imageBody_length _ _ _) ((portsDistinct_iff s.laneMap).mpr h.distinct)

end Sys2Proof.Machine
end

section
/-! PROOFS. The start-up load, from its first transaction to its end, and the pending hellos that its end completes (R30, R31, R40, R189,
R191, R192). -/

namespace Sys2Proof.Machine

/-! ### The transactions of a load (R189, R191) -/

theorem isBefore_self (t : Time) : isBefore t t = false := by simp [isBefore, tdiff]

theorem currentTransaction_addressing {s : State} {d : Time} (job : s.store.job = .addressing) (deadline : s.store.deadline = some d) :
    currentTransaction s = if isBefore s.clock d = true then some .address else none := by
  simp only [currentTransaction, job, beforeDeadline, deadline]

theorem currentTransaction_reading {s : State} {got : List Byte} (job : s.store.job = .reading got) :
    currentTransaction s = if s.store.busUsed = true then none else some (.read got.length) := by
  simp only [currentTransaction, job]

theorem loadAddressStep_before {s : State} {d : Time} (job : s.store.job = .addressing) (deadline : s.store.deadline = some d)
    (before : isBefore s.clock d = true) :
    loadAddressStep s = { s with store := { s.store with job := .reading [], deadline := none, busUsed := true } } := by
  simp only [loadAddressStep, job, currentTransaction_addressing job deadline, before, if_true]

theorem loadDeadlineStep_due {s : State} (job : s.store.job = .addressing) (deadline : s.store.deadline = some s.clock) :
    loadDeadlineStep s = endLoad .defaultsAbsent none s.store.markerOffset s := if_pos ⟨job, deadline⟩

section
variable {s : State} {got : List Byte} (job : s.store.job = .reading got)
include job

/-- The read of this tick has been made (R191). -/
theorem loadReadStep_used (used : s.store.busUsed = true) (taken : Option (Vector Byte 16)) : loadReadStep taken s = s := by
  simp only [loadReadStep, job, currentTransaction_reading job, used, if_true]

variable (free : s.store.busUsed = false)
include free

theorem currentTransaction_read : currentTransaction s = some (.read got.length) := by
  rw [currentTransaction_reading job, free, if_neg nofun]

theorem loadReadStep_absent : loadReadStep none s = endLoad .defaultsAbsent none s.store.markerOffset s := by
  simp only [loadReadStep, job, currentTransaction_read job free]

theorem loadReadStep_more {v : Vector Byte 16} {m : Option Nat} (found : loadFinding (got ++ v.toList) = .more m) :
    loadReadStep (some v) s = { s with store := { s.store with
      job := .reading (got ++ v.toList), markerOffset := markerAfter m s.store.markerOffset, busUsed := true } } := by
  simp only [loadReadStep, job, currentTransaction_read job free, found]

theorem loadReadStep_bad {v : Vector Byte 16} {m : Option Nat} (found : loadFinding (got ++ v.toList) = .bad m) :
    loadReadStep (some v) s = endLoad .defaultsBad none (markerAfter m s.store.markerOffset) s := by
  simp only [loadReadStep, job, currentTransaction_read job free, found]

theorem loadReadStep_good {v : Vector Byte 16} {w : LoadCopy} {o : Nat} (found : loadFinding (got ++ v.toList) = .good w o) :
    loadReadStep (some v) s = endLoad .loaded (some w) (some o) s := by
  simp only [loadReadStep, job, currentTransaction_read job free, found]

end

theorem exec_loadAddressAcknowledged {s : State} (running : s.resetHeld = false) :
    exec .loadAddressAcknowledged s = .next (loadAddressStep s) := live_running loadAddressStep running

theorem exec_loadAcknowledgeDeadline {s : State} (running : s.resetHeld = false) :
    exec .loadAcknowledgeDeadline s = .next (loadDeadlineStep s) := live_running loadDeadlineStep running

theorem exec_loadRead (taken : Option (Vector Byte 16)) {s : State} (running : s.resetHeld = false) :
    exec (.loadRead taken) s = .next (loadReadStep taken s) := live_running (loadReadStep taken) running

/-- A marker found takes the place of the one held. -/
theorem markerAfter_eq (found held : Option Nat) : markerAfter found held = if found = none then held else found := by
  cases found <;> rfl

/-! ### The end of a load, before the pending hellos (R192 steps 1 to 3) -/

/-- The part at the end of a load, before the hellos held pending are completed: tables, ATTN mode and store. -/
def loadEnded (outcome : StoreState) (copy : Option LoadCopy) (marker : Option Nat) (s : State) : State :=
  { loadTables copy s with
    events := attnModeChange s.line.attnMode (loadTables copy s).line.attnMode s.events,
    store := { state := outcome, markerOffset := marker, job := .idle, deadline := none, busUsed := false } }

theorem endLoad_eq (outcome : StoreState) (copy : Option LoadCopy) (marker : Option Nat) (s : State) :
    endLoad outcome copy marker s = forPorts allPorts completeHello (loadEnded outcome copy marker s) := rfl

section
variable (outcome : StoreState) (copy : Option LoadCopy) (marker : Option Nat) (s : State)

theorem loadEnded_port (p : PortIx) : (loadEnded outcome copy marker s).port p = s.port p := by cases copy <;> rfl

theorem loadEnded_clock : (loadEnded outcome copy marker s).clock = s.clock := by cases copy <;> rfl

theorem loadEnded_openId : openId (loadEnded outcome copy marker s) = openId s := by cases copy <;> rfl

/-- With the tables as they are the ATTN mode stays, and the store alone is written. -/
theorem loadEnded_none : loadEnded outcome none marker s =
    { s with store := { state := outcome, markerOffset := marker, job := .idle, deadline := none, busUsed := false } } := by
  simp [loadEnded, loadTables, attnModeChange]

end

/-! ### The pending hellos, port by port (R30, R31, R192) -/

/-- A LINKING port that holds a hello pending (R31). -/
def Port.helloHeld (x : Port) : Bool := x.link = .linking && x.helloPending

theorem Port.helloHeld_iff {x : Port} : x.helloHeld = true ↔ x.link = .linking ∧ x.helloPending = true := by simp [Port.helloHeld]

/-- The port part of an entry to STREAMING that completes a hello held pending: the two frames are offered, and the timers begin (R30). -/
def Port.helloCompleted (now : Time) (rate : SampleRate) (mask : BitVec 4) (mismatched : Bool) (x : Port) : Port :=
  { offerFrame .streamOn (offerFrame (.mode rate mask) { x with helloPending := false }) with
    mismatched := mismatched, helloWaitEnd := none, streamingSince := some now, lastValid := some now,
    silenceEnd := some (tadd now 200), consecutiveBad := 0, link := .streaming }

theorem completeHello_held {p : PortIx} {s : State} (h : (s.port p).helloHeld = true) : completeHello p s =
    { s with
      ports := s.ports.set p ((s.port p).helloCompleted s.clock s.line.rate (enableMask s p)
        (isMismatched s p ((s.port p).capability.getD 0))),
      events := (linkEvent .linkUp p s).events } :=
  (if_pos (Port.helloHeld_iff.mp h)).trans (enterStreaming_setPort rfl)

theorem completeHello_notHeld {p : PortIx} {s : State} (h : (s.port p).helloHeld = false) : completeHello p s = s :=
  if_neg fun held => by rw [Port.helloHeld_iff.mpr held] at h; cases h

/-- A load that no port's hello waits for ends with its tables and its store (R192). -/
theorem endLoad_noHello (outcome : StoreState) (copy : Option LoadCopy) (marker : Option Nat) {s : State}
    (none : ∀ p, (s.port p).helloPending = false) : endLoad outcome copy marker s = loadEnded outcome copy marker s := by
  rw [endLoad_eq]
  exact forPorts_fixed allPorts fun p _ => completeHello_notHeld (by simp [Port.helloHeld, loadEnded_port, none p])

theorem enableMask_congr {s t : State} (h : t.laneMap = s.laneMap) (p : PortIx) : enableMask t p = enableMask s p := by
  unfold enableMask State.lane; rw [mappedLane_congr h, h]

theorem isMismatched_congr {s t : State} (h : t.laneMap = s.laneMap) (p : PortIx) (n : Nat) :
    isMismatched t p n = isMismatched s p n := by
  unfold isMismatched State.lane; rw [mappedLane_congr h, h]

/-- The hellos of the twelve ports, each completed with the tables in force; a port that holds none stays (R31, R192). -/
theorem completeHellos_port (s : State) (q : PortIx) : (forPorts allPorts completeHello s).port q =
    if (s.port q).helloHeld = true then
      (s.port q).helloCompleted s.clock s.line.rate (enableMask s q) (isMismatched s q ((s.port q).capability.getD 0))
    else s.port q := by
  refine (forPorts_writesOwn (I := fun t => t.clock = s.clock ∧ t.laneMap = s.laneMap ∧ t.line = s.line)
    (g := fun p x => if x.helloHeld = true then
      x.helloCompleted s.clock s.line.rate (enableMask s p) (isMismatched s p (x.capability.getD 0)) else x)
    (fun p t ht => ?_) (fun p t ht => ?_) (fun p q t => (completeHello_otherPort · t)) allPorts_nodup ⟨rfl, rfl, rfl⟩ q).trans
    (if_pos (mem_allPorts q))
  · rw [completeHello_writes]; exact ht
  · obtain ⟨clock, laneMap, line⟩ := ht
    split
    · next held =>
      rw [completeHello_held held, clock, line, enableMask_congr laneMap, isMismatched_congr laneMap]
      exact (State.setPort_port t p p _).trans (if_pos rfl)
    · next free => rw [completeHello_notHeld (Bool.eq_false_iff.mpr free)]

/-- The LINK_UP of a port (R40). -/
def linkUp (s : State) (p : PortIx) : Event :=
  { kind := .linkUp, time := s.clock, lane := mappedLane s p, attempt := openId s, value := BitVec.ofNat 32 p.val }

/-- The hellos completed place their LINK_UP events in the order of the ports (R40, entry 21). -/
theorem completeHellos_events {ps : List PortIx} (nodup : ps.Nodup) (s : State) : (forPorts ps completeHello s).events =
    (ps.filter fun p => (s.port p).helloHeld).foldl (fun q p => arrive s.line.attnMode (linkUp s p) q) s.events := by
  induction ps generalizing s with
  | nil => rfl
  | cons p ps ih =>
    obtain ⟨fresh, rest⟩ := List.nodup_cons.mp nodup
    have writes := completeHello_writes p s
    have others : ∀ q ∈ ps, ((completeHello p s).port q).helloHeld = (s.port q).helloHeld := fun q hq => by
      have different : p ≠ q := fun e => fresh (e ▸ hq)
      rw [completeHello_otherPort different]
    have mode : (completeHello p s).line.attnMode = s.line.attnMode := by rw [writes]
    have up : linkUp (completeHello p s) = linkUp s := by rw [writes]; rfl
    refine (ih rest (completeHello p s)).trans ?_
    rw [List.filter_congr others, mode, up]
    cases held : (s.port p).helloHeld with
    | true =>
      rw [List.filter_cons_of_pos (p := fun p => (s.port p).helloHeld) held, List.foldl_cons, completeHello_held held]
      rfl
    | false =>
      rw [List.filter_cons_of_neg (p := fun p => (s.port p).helloHeld) (by simp [held]), completeHello_notHeld held]

/-- The outbound line after a hello is completed, on an idle line and behind a frame being sent (R18, R30). -/
theorem Port.helloCompleted_line {now : Time} {rate : SampleRate} {mask : BitVec 4} {mismatched : Bool} {x : Port}
    (h : (x.sending = none ∧ x.queue = [] ∧ x.brk = .clear) ∨ (x.sending ≠ none ∧ x.queue.length ≤ 8)) :
    x.helloCompleted now rate mask mismatched =
      { x with helloPending := false, mismatched := mismatched, helloWaitEnd := none, streamingSince := some now, lastValid := some now,
               silenceEnd := some (now + 200#32), consecutiveBad := 0, link := .streaming,
               sending := some (x.sending.getD (.mode rate mask)),
               queue := if x.sending = none then [.streamOn] else (x.queue ++ [OutFrame.mode rate mask, OutFrame.streamOn]).take 8 } := by
  unfold Port.helloCompleted
  rcases h with ⟨sending, queue, brk⟩ | ⟨sending, queue⟩
  · rw [offerFrame_pair (x := { x with helloPending := false }) _ _ (by simp [brk]) (.inl ⟨brk, sending, queue⟩)]
    simp only [brk, sending, and_self, if_true]
    rfl
  · rw [offerFrame_pair_busy (x := { x with helloPending := false }) _ _ queue (.inl sending), if_neg sending]
    obtain ⟨f, hf⟩ := Option.ne_none_iff_exists'.mp sending
    simp only [hf, Option.getD_some]
    rfl

/-! ### The lane of a port (section 2.1) -/

theorem mappedLane_none {s : State} {p : PortIx} (h : ∀ l : LaneIx, s.laneMap[l].port ≠ some p) : mappedLane s p = none :=
  List.find?_eq_none.mpr fun l _ => decide_eq_true_iff.not.mpr (h l)

theorem mappedLane_only {s : State} {p : PortIx} {l : LaneIx} (hl : s.laneMap[l].port = some p)
    (only : ∀ k : LaneIx, s.laneMap[k].port = some p → k = l) : mappedLane s p = some l := by
  cases found : mappedLane s p with
  | none => exact absurd (decide_eq_true hl) (List.find?_eq_none.mp found l (mem_allLanes l))
  | some k => rw [only k (of_decide_eq_true (List.find?_some (p := fun l => decide ((s.lane l).port = some p)) found))]

theorem Port.helloCompleted_streaming (now : Time) (rate : SampleRate) (mask : BitVec 4) (mismatched : Bool) (x : Port) :
    (x.helloCompleted now rate mask mismatched).link = .streaming ∧ (x.helloCompleted now rate mask mismatched).helloPending = false :=
  ⟨rfl, by simp only [Port.helloCompleted]; rw [offerFrame_writes, offerFrame_writes]⟩

/-! ### The end of a load, field by field (R192) -/

section
variable (outcome : StoreState) (copy : Option LoadCopy) (marker : Option Nat) (s : State)

theorem endLoad_writes : endLoad outcome copy marker s = { loadEnded outcome copy marker s with
    ports := (endLoad outcome copy marker s).ports, events := (endLoad outcome copy marker s).events } := by
  rw [endLoad_eq]
  exact (completeHellos_spec _).2.1

theorem endLoad_store : (endLoad outcome copy marker s).store =
    { state := outcome, markerOffset := marker, job := .idle, deadline := none, busUsed := false } := by
  rw [endLoad_writes]; rfl

theorem endLoad_tables : (endLoad outcome copy marker s).laneMap = (loadTables copy s).laneMap
    ∧ (endLoad outcome copy marker s).profiles = (loadTables copy s).profiles
    ∧ (endLoad outcome copy marker s).line = (loadTables copy s).line := by
  rw [endLoad_writes]; exact ⟨rfl, rfl, rfl⟩

theorem endLoad_port (p : PortIx) : (endLoad outcome copy marker s).port p =
    if (s.port p).helloHeld = true then
      (s.port p).helloCompleted s.clock (loadTables copy s).line.rate (enableMask (loadTables copy s) p)
        (isMismatched (loadTables copy s) p ((s.port p).capability.getD 0))
    else s.port p := by
  have tables : (loadEnded outcome copy marker s).laneMap = (loadTables copy s).laneMap := rfl
  rw [endLoad_eq, completeHellos_port, loadEnded_port, loadEnded_clock, enableMask_congr tables, isMismatched_congr tables]
  rfl

theorem endLoad_events : (endLoad outcome copy marker s).events =
    (allPorts.filter fun p => (s.port p).helloHeld).foldl
      (fun q p => arrive (loadTables copy s).line.attnMode
        { kind := .linkUp, time := s.clock, lane := mappedLane (endLoad outcome copy marker s) p, attempt := openId s,
          value := BitVec.ofNat 32 p.val } q)
      (attnModeChange s.line.attnMode (loadTables copy s).line.attnMode s.events) := by
  have up : ∀ p, linkUp (loadEnded outcome copy marker s) p =
      { kind := .linkUp, time := s.clock, lane := mappedLane (endLoad outcome copy marker s) p, attempt := openId s,
        value := BitVec.ofNat 32 p.val } := fun p => by
    have tables : (endLoad outcome copy marker s).laneMap = (loadEnded outcome copy marker s).laneMap := by rw [endLoad_writes]
    rw [linkUp, loadEnded_clock, loadEnded_openId, mappedLane_congr tables]
  simp only [← up]
  rw [endLoad_eq, completeHellos_events allPorts_nodup]
  simp only [loadEnded_port]
  rfl

end

end Sys2Proof.Machine
end

section
/-! PROOFS. The load from its first transaction to its end (O43), part by part. -/

namespace Sys2Proof.Machine

/-! ### What fails a load: a record's fields, what it names, the checksum and the ports (R191) -/

theorem LoadCopy.take_laneFault {w : LoadCopy} {b : Byte} {fields : List Byte}
    (fault : b.toNat = 0 ∨ 10 < b.toNat ∨ laneEntryOfBytes fields = none ∨ ∃ l ∈ w.seenLanes, b.toNat = l.val + 1) :
    w.take 0x01#8 (b :: fields) = none := by
  rcases fault with zero | big | unread | ⟨l, seen, number⟩
  · exact w.take_laneRefused (.inl zero)
  · exact w.take_laneRefused (.inr (.inl big))
  · exact w.take_laneRefused (.inr (.inr unread))
  · cases read : laneEntryOfBytes fields with
    | none => exact w.take_laneRefused (.inr (.inr read))
    | some e => exact (w.take_lane number read).trans (if_pos seen)

theorem LoadCopy.take_profileFault {w : LoadCopy} {b : Byte} {fields : List Byte}
    (fault : 3 < b.toNat ∨ profileOfBytes fields = none ∨ ∃ n ∈ w.seenProfiles, b.toNat = n.val) : w.take 0x02#8 (b :: fields) = none := by
  rcases fault with big | unread | ⟨n, seen, number⟩
  · exact w.take_profileRefused (.inl big)
  · exact w.take_profileRefused (.inr unread)
  · cases read : profileOfBytes fields with
    | none => exact w.take_profileRefused (.inr read)
    | some q => exact (w.take_profile number read).trans (if_pos seen)

theorem LoadCopy.take_lineFault {w : LoadCopy} {fields : List Byte} (fault : lineOfBytes fields = none ∨ w.seenLine = true) :
    w.take 0x03#8 fields = none := by
  cases read : lineOfBytes fields with
  | none => exact w.take_lineRefused read
  | some c => exact (w.take_line read).trans (if_pos (fault.resolve_left (by simp [read])))

/-- The sum and the checksum behind it are 0 modulo 65 536 when the checksum is the sum's complement (R190). -/
theorem sum_complement (n : Nat) {c : Nat} (h : c < 65536) : (n + c) % 65536 = 0 ↔ n % 65536 = (65536 - c) % 65536 := by omega

section
variable {all : List Byte} {o : Nat} {w : LoadCopy} {h l : Byte} (rest : List Byte)

theorem loadEnd_rejected (fault : ((all.take (o + 2)).map BitVec.toNat).sum % 65536 ≠ (65536 - (h ++ l).toNat) % 65536
    ∨ ∃ i k p, i ≠ k ∧ w.laneMap[(i : LaneIx)].port = some p ∧ w.laneMap[(k : LaneIx)].port = some p) :
    loadEnd all o w (0xC0#8 :: 0xDE#8 :: h :: l :: rest) = .bad (some o) := by
  refine (loadEnd_marker all rest o w h l).trans (if_neg fun ⟨zero, distinct⟩ => ?_)
  rcases fault with sum | ⟨i, k, p, different, hi, hk⟩
  · exact sum ((sum_complement _ (h ++ l).isLt).mp zero)
  · exact different ((portsDistinct_iff _).mp distinct i k p hi hk)

theorem loadEnd_accepted (sum : ((all.take (o + 2)).map BitVec.toNat).sum % 65536 = (65536 - (h ++ l).toNat) % 65536)
    (distinct : ∀ i k p, w.laneMap[(i : LaneIx)].port = some p → w.laneMap[(k : LaneIx)].port = some p → i = k) :
    loadEnd all o w (0xC0#8 :: 0xDE#8 :: h :: l :: rest) = .good w o :=
  (loadEnd_marker all rest o w h l).trans
    (if_pos ⟨(sum_complement _ (h ++ l).isLt).mpr sum, (portsDistinct_iff _).mpr distinct⟩)

end

/-- A read acknowledges each of its 16 bytes but the last (R189). -/
theorem read_acknowledges (o : Nat) : ∀ i, i < 16 → (Transaction.read o).acknowledges[i]? = some (decide (i < 15)) :=
  show ∀ i, i < 16 → (List.replicate 15 true ++ [false])[i]? = some (decide (i < 15)) by decide

/-- Settles O43: each step by the rule of its case, the end of a load by the rules of its tables and of its pending hellos. -/
theorem loadStepsToItsEnd : Obligations.LoadStepsToItsEnd := by
  refine ⟨fun s running noHello => ?_, ?_, ⟨rfl, rfl, fun o => ⟨rfl, rfl, read_acknowledges o⟩⟩, fun code count records => ?_,
    fun all left o w ty len fields n named => ?_, ?_, fun w b fields => ?_, fun all o w m0 m1 h l rest => ?_⟩
  · -- the steps of a load that no hello waits for
    refine ⟨fun job d deadline => ⟨fun before => ?_, ?_⟩, fun got job => ⟨fun used => ?_, fun free => ?_⟩⟩
    · rw [exec_loadAddressAcknowledged running, loadAddressStep_before job deadline before, currentTransaction_addressing job deadline, before]
      exact ⟨rfl, rfl⟩
    · rintro rfl
      rw [exec_loadAcknowledgeDeadline running, loadDeadlineStep_due job deadline, endLoad_noHello _ _ _ noHello, loadEnded_none,
        currentTransaction_addressing job deadline, isBefore_self]
      exact ⟨rfl, rfl⟩
    · refine ⟨(currentTransaction_reading job).trans (if_pos used), fun v => ?_⟩
      rw [exec_loadRead v running, loadReadStep_used job used]
    · refine ⟨currentTransaction_read job free, ?_, fun v => ⟨fun m more => ?_, fun m bad => ?_, fun w o good => ?_⟩⟩
      · rw [exec_loadRead none running, loadReadStep_absent job free, endLoad_noHello _ _ _ noHello, loadEnded_none]
      · rw [exec_loadRead (some v) running, loadReadStep_more job free more, markerAfter_eq]
      · rw [exec_loadRead (some v) running, loadReadStep_bad job free bad, endLoad_noHello _ _ _ noHello, loadEnded_none, markerAfter_eq]
      · rw [exec_loadRead (some v) running, loadReadStep_good job free good, endLoad_noHello _ _ _ noHello, loadEnded, attnModeChange_eq]
        rfl
  · -- the end of a load, and the hellos that it completes
    intro s c outcome laneMap profiles line found running how
    have ends : ∃ copy marker, exec c s = .next (endLoad outcome copy marker s) ∧ (loadTables copy s).laneMap = laneMap
        ∧ (loadTables copy s).profiles = profiles ∧ (loadTables copy s).line = line := by
      rcases how with ⟨rfl, job, deadline, rfl, rfl, rfl, rfl⟩ | ⟨rfl, ⟨got, job⟩, free, rfl, rfl, rfl, rfl⟩
        | ⟨⟨got, v, rfl, job, rfl⟩, free, ⟨⟨m, bad⟩, rfl, rfl, rfl, rfl⟩ | ⟨w, o, good, rfl, rfl, rfl, rfl⟩⟩
      · exact ⟨none, _, by rw [exec_loadAcknowledgeDeadline running, loadDeadlineStep_due job deadline], rfl, rfl, rfl⟩
      · exact ⟨none, _, by rw [exec_loadRead none running, loadReadStep_absent job free], rfl, rfl, rfl⟩
      · exact ⟨none, _, by rw [exec_loadRead (some v) running, loadReadStep_bad job free bad], rfl, rfl, rfl⟩
      · exact ⟨some w, _, by rw [exec_loadRead (some v) running, loadReadStep_good job free good], rfl, rfl, rfl⟩
    obtain ⟨copy, marker, step, rfl, rfl, rfl⟩ := ends
    have store := endLoad_store outcome copy marker s
    obtain ⟨laneMap, profiles, line⟩ := endLoad_tables outcome copy marker s
    refine ⟨_, step, congrArg StorePort.state store, congrArg StorePort.job store, laneMap, profiles, line, ?_, ?_, ?_, ?_⟩
    · rintro p _ rfl linking pending outbound
      refine ⟨_, _, ((endLoad_port outcome copy marker s p).trans (if_pos (Port.helloHeld_iff.mpr ⟨linking, pending⟩))).trans
        (Port.helloCompleted_line outbound), fun unmapped => ?_, fun l n mapped only capability => ?_⟩
      · have no := mappedLane_none unmapped
        exact ⟨enableMask_unmapped no, isMismatched_unmapped _ no⟩
      · have lane := mappedLane_only mapped only
        rw [capability]
        exact ⟨enableMask_mapped lane, isMismatched_mapped n lane⟩
    · intro p linking pending
      rw [endLoad_port, if_pos (Port.helloHeld_iff.mpr ⟨linking, pending⟩)]
      exact Port.helloCompleted_streaming ..
    · intro p free
      exact (endLoad_port outcome copy marker s p).trans (if_neg fun held => by
        obtain ⟨linking, pending⟩ := Port.helloHeld_iff.mp held
        simp [linking, pending] at free)
    · rw [endLoad_events, attnModeChange_eq]
      rfl
  · -- the format code
    exact ⟨fun other => if_pos other, fun code => if_neg (not_not.mpr code)⟩
  · -- a record's length, its end and its fields
    have type := recordLength_eq named
    exact ⟨loadRecords_misplaced type, fun given fits => ⟨loadRecords_unread type given fits, fun whole =>
      ⟨loadRecords_refused type given fits whole, fun _ => loadRecords_taken type given fits whole⟩⟩⟩
  · -- a record's type
    intro all left o w ty rest h1 h2 h3
    simp only [loadRecords, recordLength_none h1 h2 h3]
  · -- what a record names
    refine ⟨LoadCopy.take_laneFault, LoadCopy.take_profileFault, LoadCopy.take_lineFault, fun l e number read new => ?_,
      fun n q number read new => ?_, fun c read new => ?_⟩
    · exact (w.take_lane number read).trans (if_neg new)
    · exact (w.take_profile number read).trans (if_neg new)
    · exact (w.take_line read).trans (if_neg (by simp [new]))
  · -- the end marker, the checksum and the ports
    exact ⟨(loadEnd_noMarker · all rest o w), rfl, loadEnd_rejected rest, loadEnd_accepted rest⟩

end Sys2Proof.Machine
end

section
/-! PROOFS. A step runs the command at the front of the queue, and every command completes and leaves the queue of those that wait alone
(R1 to R197, entries 4, 7 and 14). -/

namespace Sys2Proof.Machine

/-- Settles O1: the two cases of a step. -/
theorem stepRunsFrontCommand : Obligations.StepRunsFrontCommand :=
  ⟨fun c rest s waiting => by rw [step, waiting], fun s empty => by rw [step, empty]⟩

/-! ### Steps whose writes are known -/

theorem WritesReports.pending {s t : State} (h : WritesReports s t) : t.pending = s.pending := (congrArg State.pending h :)

theorem WritesAttempt.pending {s t : State} (h : WritesAttempt s t) : t.pending = s.pending := (congrArg State.pending h :)

theorem WritesLinks.pending {s t : State} (h : WritesLinks s t) : t.pending = s.pending := (congrArg State.pending h :)

theorem forPorts_pending {f : PortIx → State → State} (h : ∀ p t, (f p t).pending = t.pending) (ps : List PortIx) (s : State) :
    (forPorts ps f s).pending = s.pending :=
  forPorts_induct (P := fun t => t.pending = s.pending) ps rfl fun p _ t ht => (h p t).trans ht

/-! ### The pistol (R4 to R8, R92 to R95) -/

theorem startAttempt_pending (te : Time) (r : Record) (s : State) : (startAttempt te r s).pending = s.pending := by
  unfold startAttempt
  rw [(WritesReports.forLanes (.shotFired te) r.lanes _).pending]
  exact changeRecord_pending r.id _ s

theorem shotMeaning_pending (te : Time) (s : State) : (shotMeaning te s).pending = s.pending := by
  have recalled : ∀ r, (recallShot te r s).pending = s.pending := fun r => changeRecord_pending r.id _ s
  unfold shotMeaning
  split
  · split
    · split
      · exact startAttempt_pending te _ s
      · rfl
    · exact recalled _
    · rfl
  · split
    · exact recalled _
    · rfl

theorem pistolEdgeStep_pending (s : State) : (pistolEdgeStep s).pending = s.pending := by
  unfold pistolEdgeStep; split <;> rfl

theorem shotAcceptedStep_pending (s : State) : (shotAcceptedStep s).pending = s.pending := by
  unfold shotAcceptedStep
  split
  · split
    · exact shotMeaning_pending _ _
    · rfl
  · rfl

theorem glitchStep_pending (s : State) : (glitchStep s).pending = s.pending := by
  unfold glitchStep
  split
  · split <;> rfl
  · rfl

theorem pistolHoldEndStep_pending (s : State) : (pistolHoldEndStep s).pending = s.pending := by
  unfold pistolHoldEndStep; split <;> rfl

/-! ### The lane link ports (R26 to R34) -/

theorem linkReset_pending (p : PortIx) (lane : Option LaneIx) (s : State) : (linkReset p lane s).pending = s.pending :=
  (WritesLinks.linkReset p lane s).pending

theorem lossNotice_pending (p : PortIx) (s : State) : (lossNotice p s).pending = s.pending := (lossNotice_frame p s).pending

theorem enterLost_pending (p : PortIx) (s : State) : (enterLost p s).pending = s.pending :=
  (linkReset_pending p _ _).trans (lossNotice_pending p s)

theorem failZero_pending (l : LaneIx) (reason : BitVec 32) (s : State) : (failZero l reason s).pending = s.pending := by
  unfold failZero; split <;> rfl

theorem enterAbsent_pending (p : PortIx) (s : State) : (enterAbsent p s).pending = s.pending := by
  have noticed : (if (s.port p).link = .streaming then portStreamEnded p (mappedLane s p) (linkEvent .linkLost p s) else s).pending
      = s.pending := by
    split
    · exact lossNotice_pending p s
    · rfl
  unfold enterAbsent
  simp only
  rw [← noticed]
  generalize (if (s.port p).link = .streaming then _ else s) = t
  cases mappedLane s p with
  | none => rfl
  | some l =>
    simp only
    split
    · exact failZero_pending l _ _
    · rfl

theorem silenceEndStep_pending (p : PortIx) (s : State) : (silenceEndStep p s).pending = s.pending := by
  unfold silenceEndStep
  split
  · exact enterLost_pending p s
  · rfl

theorem helloWaitEndStep_pending (p : PortIx) (s : State) : (helloWaitEndStep p s).pending = s.pending := by
  unfold helloWaitEndStep
  split
  · exact linkReset_pending p _ s
  · rfl

theorem presenceActiveStep_pending (p : PortIx) (s : State) : (presenceActiveStep p s).pending = s.pending := by
  unfold presenceActiveStep
  simp only
  split
  · split
    · exact linkReset_pending p _ _
    · rfl
  · rfl

theorem presenceInactiveStep_pending (p : PortIx) (s : State) : (presenceInactiveStep p s).pending = s.pending := by
  unfold presenceInactiveStep
  simp only
  split
  · split
    · exact enterAbsent_pending p _
    · rfl
  · rfl

theorem breakEndStep_pending (p : PortIx) (s : State) : (breakEndStep p s).pending = s.pending := by
  unfold breakEndStep; split <;> rfl

theorem outboundFrameSentStep_pending (p : PortIx) (s : State) : (outboundFrameSentStep p s).pending = s.pending := by
  unfold outboundFrameSentStep; split <;> rfl

/-! ### Link frames (R21 to R25, R30, R33, R57 to R60) -/

theorem badFrame_pending (parity : Bool) (p : PortIx) (s : State) : (badFrame parity p s).pending = s.pending := by
  rw [badFrame_eq]
  split
  · exact enterLost_pending p _
  · rfl

theorem commit_pending (l : LaneIx) (s : State) : (commit l s).pending = s.pending :=
  (congrArg State.pending (zeroCommit_writes l _)).trans (WritesReports.offerEntry l _ _ _).pending

theorem takeSample_pending (l : LaneIx) (x : Sample) (s : State) : (takeSample l x s).pending = s.pending := by
  unfold takeSample
  simp only
  split
  · exact commit_pending l _
  · rfl

theorem useFrame_pending (p : PortIx) (u : LinkUse) (s : State) : (useFrame p u s).pending = s.pending := by
  cases u with
  | sample c seq raw overload =>
    simp only [useFrame, sampleTaken]
    split
    · split
      · exact takeSample_pending _ _ _
      · rfl
    · rfl
  | hello channels =>
    simp only [useFrame, helloTaken]
    split
    · split <;> rfl
    · split
      · split
        · exact enterLost_pending p s
        · rfl
      · rfl
    · rfl
    · rfl
  | alive => simp only [useFrame, aliveTaken]; split <;> rfl
  | discarded => rfl

theorem frameComplete_pending (p : PortIx) (error early : Bool) (b0 b1 b2 b3 : Byte) (s : State) :
    (frameComplete p error early b0 b1 b2 b3 s).pending = s.pending := by
  unfold frameComplete
  split
  · rfl
  · split
    · exact badFrame_pending true p s
    · split
      · exact useFrame_pending p _ _
      · exact badFrame_pending false p s

theorem frameCut_pending (p : PortIx) (error early : Bool) (s : State) : (frameCut p error early s).pending = s.pending := by
  unfold frameCut
  split
  · rfl
  · exact badFrame_pending error p s

theorem linkByte_pending (p : PortIx) (early : Bool) (b : RxByte) (s : State) : (linkByte p early b s).pending = s.pending := by
  unfold linkByte
  simp only
  split
  · rfl
  · split
    · split
      · rfl
      · exact frameCut_pending p _ _ _
    · split
      · rfl
      · exact frameComplete_pending p _ _ _ _ _ _ _
      · rfl

theorem linkReceive_pending (p : PortIx) (rx : LinkRx) (s : State) : (linkReceive p rx s).pending = s.pending :=
  List.foldlRecOn (motive := fun t : State => t.pending = s.pending) rx.bytes _ rfl fun t ht b _ =>
    (linkByte_pending p rx.early b t).trans ht

/-! ### The store port (R191, R192, R195) -/

theorem loadAddressStep_pending (s : State) : (loadAddressStep s).pending = s.pending := by
  unfold loadAddressStep; split <;> rfl

theorem endLoad_pending (outcome : StoreState) (copy : Option LoadCopy) (marker : Option Nat) (s : State) :
    (endLoad outcome copy marker s).pending = s.pending := by
  rw [endLoad_writes]
  cases copy <;> rfl

theorem loadDeadlineStep_pending (s : State) : (loadDeadlineStep s).pending = s.pending := by
  rw [(loadDeadlineStep_spec s).2.1]

theorem loadReadStep_pending (taken : Option (Vector Byte 16)) (s : State) : (loadReadStep taken s).pending = s.pending := by
  unfold loadReadStep
  split
  · split
    · exact endLoad_pending _ _ _ s
    · split
      · rfl
      · exact endLoad_pending _ _ _ s
      · exact endLoad_pending _ _ _ s
  · rfl

theorem saveTakenStep_pending (s : State) : (saveTakenStep s).pending = s.pending := by
  unfold saveTakenStep; split <;> rfl

theorem saveStoredStep_pending (s : State) : (saveStoredStep s).pending = s.pending := by
  unfold saveStoredStep
  split
  · split
    · rfl
    · split <;> rfl
  · rfl

theorem saveDeadlineStep_pending (s : State) : (saveDeadlineStep s).pending = s.pending := by
  rw [(saveDeadlineStep_spec s).1]

/-! ### The host line (R167 to R178, R196) -/

/-- No request, served or refused, writes the queue: a reset that follows it keeps the queue as it was before (entry 14). -/
theorem serveRequest_pending (code : Byte) (payload : List Byte) (s : State) :
    (serveRequest code payload s).state.pending = s.pending := by
  have reset := doReset_serveRequest code payload s
  exact (congrArg State.pending reset :)

theorem requestTaken_pending (a tag code : Byte) (payload : List Byte) (s : State) :
    (requestTaken a tag code payload s).pending = s.pending := by
  unfold requestTaken
  simp only
  split <;> exact serveRequest_pending code payload (setRx .hunt s)

/-- A byte on the host line writes the host line interface, or ends a request (R167 to R171). -/
theorem hostByte_cases (b : HostByte) (s : State) : (∃ x, hostByte b s = { s with host := x })
    ∨ ∃ a tag code payload, hostByte b s = requestTaken a tag code payload s := by
  unfold hostByte takeHostByte
  split
  · exact .inl ⟨s.host, rfl⟩
  · split
    · split <;> exact .inl ⟨_, rfl⟩
    · unfold receiveByte
      split
      · exact .inl ⟨_, rfl⟩
      · split
        · split <;> exact .inl ⟨_, rfl⟩
        · unfold receivePlace frameEnded
          split
          · exact .inl ⟨_, rfl⟩
          · split
            · simp only
              split
              · exact .inr ⟨_, _, _, _, rfl⟩
              · exact .inl ⟨_, rfl⟩
            · exact .inl ⟨_, rfl⟩
    · unfold muteHeaderByte
      split
      · split <;> exact .inl ⟨_, rfl⟩
      · exact .inl ⟨_, rfl⟩
    · unfold muteBodyByte
      split <;> exact .inl ⟨_, rfl⟩

theorem hostBytes_pending (bytes : List HostByte) (s : State) : (hostBytes bytes s).pending = s.pending := by
  refine List.foldlRecOn (motive := fun t : State => t.pending = s.pending) bytes _ rfl fun t ht b _ => ?_
  rcases hostByte_cases b t with ⟨x, written⟩ | ⟨a, tag, code, payload, taken⟩
  · rw [written]; exact ht
  · rw [taken, requestTaken_pending]; exact ht

theorem quietPassed_pending (s : State) : (quietPassed s).pending = s.pending := by
  unfold quietPassed; split <;> rfl

theorem requestArrives_pending (code : Byte) (r : Request) (s : State) : (requestArrives code r s).pending = s.pending := by
  unfold requestArrives
  split
  · exact requestTaken_pending _ _ _ _ s
  · exact hostBytes_pending _ s

theorem replyStartStep_pending (s : State) : (replyStartStep s).pending = s.pending := by
  unfold replyStartStep
  split
  · split <;> rfl
  · rfl

/-- The end of a reply, with a reset or without one, keeps the queue (R196, entry 14). -/
theorem replyOver_pending (s : State) : (replyOver s).pending = s.pending := by
  unfold replyOver
  simp only
  split <;> rfl

theorem replySentStep_pending (s : State) : (replySentStep s).pending = s.pending := by
  unfold replySentStep
  split
  · exact replyOver_pending s
  · rfl

theorem replyAbandonedStep_pending (s : State) : (replyAbandonedStep s).pending = s.pending := by
  unfold replyAbandonedStep
  split
  · split
    · exact replyOver_pending s
    · rfl
  · rfl

/-! ### A tick (R1, R197) -/

theorem takePistol_pending (s : State) : (takePistol s).pending = s.pending := by
  rw [takePistol, pistolHoldEndStep_pending, glitchStep_pending, shotAcceptedStep_pending, pistolEdgeStep_pending]

theorem takeLinks_pending (s : State) : (takeLinks s).pending = s.pending := by
  have presence : ∀ p t, (presenceSteps p t).pending = t.pending := fun p t =>
    (presenceInactiveStep_pending p _).trans (presenceActiveStep_pending p t)
  rw [takeLinks, forPorts_pending helloWaitEndStep_pending, forPorts_pending silenceEndStep_pending,
    forPorts_pending breakEndStep_pending, forPorts_pending presence]

theorem takeTimers_pending (s : State) : (takeTimers s).pending = s.pending := by
  rw [takeTimers, (takeAttempt_spec _).1.pending, zeroTimeouts_writes, recallPulseEndStep_writes]

theorem takeEvents_pending (s : State) : (takeEvents s).pending = s.pending := by
  rw [takeEvents, takeStore, saveDeadlineStep_pending, loadDeadlineStep_pending, takeTimers_pending, takeLinks_pending,
    takePistol_pending]

theorem firstTick_pending (pins : Pins) (s : State) : (firstTick pins s).pending = s.pending := by
  obtain ⟨_, _, _, _, _, first⟩ := firstTick_writes pins s
  rw [first]

theorem nextTick_pending (pins : Pins) (upsets : List (LaneIx × Nat)) (s : State) : (nextTick pins upsets s).pending = s.pending := by
  cases started : s.started with
  | true => rw [nextTick_started pins upsets started]
  | false => rw [nextTick_first pins upsets started, firstTick_pending]

theorem tickStep_pending (pins : Pins) (upsets : List (LaneIx × Nat)) (s : State) : (tickStep pins upsets s).pending = s.pending := by
  rw [tickStep, nextTick_pending]
  split
  · rw [takeDue_eq, replyAbandonedStep_pending, takeEvents_pending]
  · rfl

/-! ### Every command -/

/-- A command on the running part completes, and keeps the queue when its meaning does; a held part does not change. -/
theorem live_completes {f : State → State} {s : State} (h : (f s).pending = s.pending) :
    ∃ t, live f s = .next t ∧ t.pending = s.pending := by
  refine ⟨_, rfl, ?_⟩
  split
  · rfl
  · exact h

/-- Settles O2: a request completes as its owner answers it, a reset keeps the queue, and every other command is a meaning on the running
part that does not write it. -/
theorem commandsComplete : Obligations.CommandsComplete := by
  intro c s
  cases hr : requestOf c with
  | some request =>
    rw [exec_request hr]
    exact live_completes (requestArrives_pending _ _ s)
  | none =>
    cases c with
    | reset straps => exact ⟨_, rfl, rfl⟩
    | resetPinAsserted => exact ⟨_, rfl, rfl⟩
    | startUpFirstTick pins =>
      refine live_completes ?_
      unfold startUpFirstTickStep
      split
      · rfl
      · exact firstTick_pending pins s
    | tick pins upsets => exact live_completes (tickStep_pending pins upsets s)
    | requestFrameDropped bytes => exact live_completes (hostBytes_pending bytes s)
    | frameTimeout bytes =>
      exact live_completes (f := fun t => quietPassed (hostBytes bytes t)) ((quietPassed_pending _).trans (hostBytes_pending bytes s))
    | mutedFrame bytes quiet =>
      refine live_completes (f := fun t => if quiet then quietPassed (hostBytes bytes t) else hostBytes bytes t) ?_
      split
      · exact (quietPassed_pending _).trans (hostBytes_pending bytes s)
      · exact hostBytes_pending bytes s
    | replyStart => exact live_completes (replyStartStep_pending s)
    | replySent => exact live_completes (replySentStep_pending s)
    | replyAbandoned2ms => exact live_completes (replyAbandonedStep_pending s)
    | pistolEdge => exact live_completes (pistolEdgeStep_pending s)
    | shotAccepted => exact live_completes (shotAcceptedStep_pending s)
    | glitch => exact live_completes (glitchStep_pending s)
    | pistolHoldEnd => exact live_completes (pistolHoldEndStep_pending s)
    | recallPulseEnd => exact live_completes (congrArg State.pending (recallPulseEndStep_writes s) :)
    | sampleFrame p rx => exact live_completes (linkReceive_pending p rx s)
    | hello p rx => exact live_completes (linkReceive_pending p rx s)
    | alive p rx => exact live_completes (linkReceive_pending p rx s)
    | discardedStatusFrame p rx => exact live_completes (linkReceive_pending p rx s)
    | badFrame p rx => exact live_completes (linkReceive_pending p rx s)
    | silenceEndExpiry p => exact live_completes (silenceEndStep_pending p s)
    | presenceActive p => exact live_completes (presenceActiveStep_pending p s)
    | presenceInactive p => exact live_completes (presenceInactiveStep_pending p s)
    | helloWaitEndExpiry p => exact live_completes (helloWaitEndStep_pending p s)
    | breakEnd p => exact live_completes (breakEndStep_pending p s)
    | outboundFrameSent p => exact live_completes (outboundFrameSentStep_pending p s)
    | zeroTimeout l => exact live_completes (congrArg State.pending (zeroTimeoutStep_writes l s) :)
    | settleEndExpiry => exact live_completes (WritesAttempt.settleEndStep s).pending
    | windowCloseExpiry => exact live_completes (windowCloseStep_spec s).1.pending
    | recallShotEndExpiry => exact live_completes (recallShotEndStep_spec s).1.pending
    | heldAgeEndExpiry l => exact live_completes (heldAgeEndStep_spec l s).1.pending
    | attnPulseStart =>
      refine live_completes ?_
      unfold attnPulseStartStep
      split <;> rfl
    | attnPulseEnd => exact live_completes (f := attnPulseEndStep) rfl
    | loadAddressAcknowledged => exact live_completes (loadAddressStep_pending s)
    | loadAcknowledgeDeadline => exact live_completes (loadDeadlineStep_pending s)
    | loadRead taken => exact live_completes (loadReadStep_pending taken s)
    | saveWriteTaken => exact live_completes (saveTakenStep_pending s)
    | saveWriteStored => exact live_completes (saveStoredStep_pending s)
    | saveAcknowledgeDeadline => exact live_completes (saveDeadlineStep_pending s)
    | _ => cases hr

end Sys2Proof.Machine
end

section
/-! PROOFS. The bytes of the tables, counted and read back (section 12.2, R198). -/

namespace Sys2Proof.Machine

theorem profileBytes_length (p : Profile) : (profileBytes p).length = 5 := rfl

theorem lineBytes_length (c : LineSettings) : (lineBytes c).length = 12 := rfl

/-- Settles O11: field by field, what is written is read, the ranges being those that the reader admits. -/
theorem tableLayoutsRoundTrip : Obligations.TableLayoutsRoundTrip :=
  ⟨fun e ok => ⟨laneEntryBytes_length e, laneEntryOfBytes_bytes ok⟩, fun p ok => ⟨profileBytes_length p, profileOfBytes_bytes ok⟩,
    fun c ok => ⟨lineBytes_length c, lineOfBytes_bytes ok⟩⟩

end Sys2Proof.Machine
end
